-- ==== Sys2Proof/Word.lean ====
section
/-! DEFINITION. The word types of FPCONV (spec 00_scope R6: bit 0 is the least significant bit) and the three
pairs of words that the rules speak of: storage words, semantic halves, limbs. -/

namespace Sys2Proof

/-- One 64-bit port word (10_state R12, R13). -/
abbrev Word := BitVec 64

/-- A 128-bit value ordered by significance: the portable value `P` (30_encoding R53) or a native value `N` (R55, R56). -/
abbrev Wide := BitVec 128

/-- The two storage words of a native object, as the host reads them: `w0` lies at the lower address
(20_memory R31). -/
structure StorageWords where
  w0 : Word
  w1 : Word
deriving DecidableEq, Repr

/-- The semantic halves of a 128-bit native value: `nh = N[127:64]`, `nl = N[63:0]` (20_memory R31). -/
structure Halves where
  nh : Word
  nl : Word
deriving DecidableEq, Repr

/-- The two limbs of a portable value: `hi = P[127:64]`, `lo = P[63:0]` (30_encoding R53). -/
structure Limbs where
  hi : Word
  lo : Word
deriving DecidableEq, Repr

/-- `N = NH ∥ NL` (20_memory R31). -/
def Halves.value (n : Halves) : Wide := n.nh ++ n.nl

/-- `P = HI ∥ LO` (30_encoding R53). -/
def Limbs.value (p : Limbs) : Wide := p.hi ++ p.lo

end Sys2Proof
end

