-- ==== Sys2Proof/Config.lean ====
section
/-! DEFINITION. What one FPCONV instance fixes: the parameters `LAYOUT`, `HOST_LE` and `CLASSIFIER`
(00_scope R5), and the constants of the datapath (R8). One free value stands here, for the response the spec does not define:
no result of an operation is open. -/

namespace Sys2Proof

/-- The native extended-precision layout (10_state R16). -/
inductive Layout where
  /-- "64-bit storage, double-precision format". -/
  | doubleAlias
  /-- "80 significant bits inside a 16-byte container". -/
  | x87In16
  /-- "true 128-bit quadruple format". -/
  | quad
  /-- The platform's storage width "matches none of the three known layouts". -/
  | none
deriving DecidableEq, Repr

/-- The two straps of one instance, read as the rules read them (10_state R15 to R18). -/
structure Straps where
  layout : Layout
  /-- `true`: the word at the lower address is the less significant half (10_state R17). -/
  hostLE : Bool
deriving DecidableEq, Repr

/-- The five value classes (30_encoding R46; 40_classifier R60). -/
inductive ValueClass where
  | normal
  | denormal
  | infinity
  | nan
  | unrecognized
deriving DecidableEq, Repr

/-- The two error kinds (60_exceptions R120). -/
inductive ErrorKind where
  /-- The classifier returned `Unrecognized` (R121). -/
  | unknownFloatPattern
  /-- The platform's layout is none of the three known ones (R122). -/
  | unsupportedLongDoubleLayout
deriving DecidableEq, Repr

/-- The parameter `CLASSIFIER` (00_scope R5, 92 D27): a pattern, zero-extended to 128 bits, and its width give a class.
DESIGN CHOICE (entry 10): the machine uses `Sys2Proof.Machine.classify`; the converter's functions take any classifier. -/
abbrev Classifier := Wide → Nat → ValueClass

namespace Config

/-- Bias of the binary64 exponent field (00_scope R8). -/
def biasDouble : Nat := 1023

/-- Bias of the portable and of the x87 exponent field (00_scope R8). -/
def biasPortable : Nat := 16383

/-- The re-bias amount `16383 - 1023` as the 15-bit constant of the datapath (00_scope R8, 44_properties R160). -/
def rebias : BitVec 15 := 15360#15

/-- What the response ports show, as one word `RSP`, while the reserved request `OP = 7` stands on the request ports, under the
straps `LAYOUT` and `HOST_LE`: the spec defines no response for it (30_encoding R50), so nothing constrains the value (DESIGN
CHOICE, entry 26). `step` refuses such a request and reads nothing of it. -/
opaque reservedResponse : BitVec 2 → BitVec 1 → BitVec 133 → BitVec 133

end Config

end Sys2Proof
end

