-- ==== Sys2Proof/Syntax.lean ====
section
/-! DEFINITION. The requests of FPCONV: the raw request as the four request ports (10_state R12, 30_encoding R40),
and the ten operations, one constructor per row of spec/opcode_table.json (30_encoding R42). -/

namespace Sys2Proof

/-- A raw request: the four fields of `REQ[132:0] = WSEL ∥ OP ∥ X1 ∥ X0` (30_encoding R40). -/
structure Request where
  op : BitVec 3
  wsel : BitVec 2
  x0 : Word
  x1 : Word
deriving DecidableEq, Repr

/-- The operations (30_encoding R42). Every request has the same format (R40), so every operation carries both operand
words; which bits of them it reads is R44's, in its meaning. `WSEL` selects the row where `OP = 6` and is no
operand (R43, R49). -/
inductive Instr where
  /-- `ENCX`: `x0`, `x1` are the storage words of the native object (41 R70). -/
  | encx (x0 x1 : Word)
  /-- `DECX`: `x0` is the limb HI, `x1` the limb LO (42 R90). -/
  | decx (x0 x1 : Word)
  /-- `ENCF32`: the value is `x0[31:0]` (43 R111). -/
  | encf32 (x0 x1 : Word)
  /-- `DECF32`: the value is `x0[31:0]` (43 R112). -/
  | decf32 (x0 x1 : Word)
  /-- `ENCF64`: the value is `x0` (43 R113). -/
  | encf64 (x0 x1 : Word)
  /-- `DECF64`: the value is `x0` (43 R114). -/
  | decf64 (x0 x1 : Word)
  /-- `CLASSIFY.W32`: the pattern is `x0[31:0]` (40 R61). -/
  | classifyW32 (x0 x1 : Word)
  /-- `CLASSIFY.W64`: the pattern is `x0` (40 R62). -/
  | classifyW64 (x0 x1 : Word)
  /-- `CLASSIFY.W80`: the pattern is `x1[15:0] ∥ x0` (40 R63). -/
  | classifyW80 (x0 x1 : Word)
  /-- `CLASSIFY.W128`: the pattern is `x1 ∥ x0` (40 R64). -/
  | classifyW128 (x0 x1 : Word)
deriving DecidableEq, Repr

/-- One row of the operation map: `CMD` match and mask (30_encoding R42). -/
structure OpcodeRow where
  mnemonic : String
  pattern : BitVec 5
  mask : BitVec 5
deriving DecidableEq, Repr

end Sys2Proof
end

