-- ==== Sys2Proof/WellFormed.lean ====
section
/-! DEFINITION. Which raw requests are operations (30_encoding R50), and the name a decoder rejects the others by.
The types of `Instr` leave no ill-formed operation: all `WSEL` codes and every value of `X0`, `X1` are legal in
every operation (R50), so the one check there is stands on the raw request. -/

namespace Sys2Proof

/-- Why a raw request is no operation. -/
inductive Reject where
  /-- `OP = 7`, the reserved operation code (30_encoding R50). Raised by the decoder; safe: no result is invented. -/
  | reservedOperation
deriving DecidableEq, Repr

/-- A request selects an operation: its `OP` is not the reserved code 7 (30_encoding R50). -/
def Request.wellFormed (r : Request) : Bool := r.op != 7#3

end Sys2Proof
end

