-- ==== Sys2Proof/Decode.lean ====
section
/-! DEFINITION. The decoder of requests, total on all 133 bits, and the encoder (30_encoding R40, R42, R43, R49,
R50, R52). The operation map of R42 stands here once more as a table of match and mask over `CMD`, as
spec/opcode_table.json has it. -/

namespace Sys2Proof

/-- `REQ[132:0] = WSEL ∥ OP ∥ X1 ∥ X0` (30_encoding R40). -/
def Request.toBits (r : Request) : BitVec 133 := r.wsel ++ r.op ++ r.x1 ++ r.x0

/-- The four fields of a request word (30_encoding R40). -/
def Request.ofBits (b : BitVec 133) : Request :=
  { wsel := b.extractLsb' 131 2
    op := b.extractLsb' 128 3
    x1 := b.extractLsb' 64 64
    x0 := b.extractLsb' 0 64 }

/-- `CMD[4:0] = WSEL ∥ OP` (30_encoding R40). -/
def Request.cmd (r : Request) : BitVec 5 := r.wsel ++ r.op

/-- The operation a request selects (30_encoding R42, R43). `WSEL` is read only where `OP = 6` (R43, R49); `OP = 7` is
rejected by name (R50). -/
def Request.decode (r : Request) : Except Reject Instr :=
  match r.op.toNat, r.wsel.toNat with
  | 0, _ => .ok (.encx r.x0 r.x1)
  | 1, _ => .ok (.decx r.x0 r.x1)
  | 2, _ => .ok (.encf32 r.x0 r.x1)
  | 3, _ => .ok (.decf32 r.x0 r.x1)
  | 4, _ => .ok (.encf64 r.x0 r.x1)
  | 5, _ => .ok (.decf64 r.x0 r.x1)
  | 6, 0 => .ok (.classifyW32 r.x0 r.x1)
  | 6, 1 => .ok (.classifyW64 r.x0 r.x1)
  | 6, 2 => .ok (.classifyW80 r.x0 r.x1)
  | 6, _ => .ok (.classifyW128 r.x0 r.x1)
  | _, _ => .error .reservedOperation

/-- The decoder of request words: total, rejecting by name (30_encoding R40, R42, R50). -/
def decode (b : BitVec 133) : Except Reject Instr := (Request.ofBits b).decode

/-- The request of an operation: its `OP` and `WSEL` codes and its operand words, with `WSEL = 0` for every operation but
`CLASSIFY` (30_encoding R42, R43, R52). -/
def Instr.request : Instr → Request
  | .encx x0 x1 => { op := 0, wsel := 0, x0 := x0, x1 := x1 }
  | .decx x0 x1 => { op := 1, wsel := 0, x0 := x0, x1 := x1 }
  | .encf32 x0 x1 => { op := 2, wsel := 0, x0 := x0, x1 := x1 }
  | .decf32 x0 x1 => { op := 3, wsel := 0, x0 := x0, x1 := x1 }
  | .encf64 x0 x1 => { op := 4, wsel := 0, x0 := x0, x1 := x1 }
  | .decf64 x0 x1 => { op := 5, wsel := 0, x0 := x0, x1 := x1 }
  | .classifyW32 x0 x1 => { op := 6, wsel := 0, x0 := x0, x1 := x1 }
  | .classifyW64 x0 x1 => { op := 6, wsel := 1, x0 := x0, x1 := x1 }
  | .classifyW80 x0 x1 => { op := 6, wsel := 2, x0 := x0, x1 := x1 }
  | .classifyW128 x0 x1 => { op := 6, wsel := 3, x0 := x0, x1 := x1 }

/-- The encoder: the request word of an operation (30_encoding R40, R52). -/
def encode (i : Instr) : BitVec 133 := i.request.toBits

/-- The operand words of an operation (30_encoding R40). -/
def Instr.operands : Instr → Word × Word
  | .encx x0 x1 => (x0, x1)
  | .decx x0 x1 => (x0, x1)
  | .encf32 x0 x1 => (x0, x1)
  | .decf32 x0 x1 => (x0, x1)
  | .encf64 x0 x1 => (x0, x1)
  | .decf64 x0 x1 => (x0, x1)
  | .classifyW32 x0 x1 => (x0, x1)
  | .classifyW64 x0 x1 => (x0, x1)
  | .classifyW80 x0 x1 => (x0, x1)
  | .classifyW128 x0 x1 => (x0, x1)

/-- `CMD` selects a row when it agrees with the row's match under the row's mask (30_encoding R42). -/
def OpcodeRow.selects (row : OpcodeRow) (cmd : BitVec 5) : Bool := (cmd &&& row.mask) == row.pattern

/-- The row of 30_encoding R42 that an operation belongs to. -/
def Instr.row : Instr → OpcodeRow
  | .encx _ _ => ⟨"ENCX", 0x00, 0x07⟩
  | .decx _ _ => ⟨"DECX", 0x01, 0x07⟩
  | .encf32 _ _ => ⟨"ENCF32", 0x02, 0x07⟩
  | .decf32 _ _ => ⟨"DECF32", 0x03, 0x07⟩
  | .encf64 _ _ => ⟨"ENCF64", 0x04, 0x07⟩
  | .decf64 _ _ => ⟨"DECF64", 0x05, 0x07⟩
  | .classifyW32 _ _ => ⟨"CLASSIFY.W32", 0x06, 0x1F⟩
  | .classifyW64 _ _ => ⟨"CLASSIFY.W64", 0x0E, 0x1F⟩
  | .classifyW80 _ _ => ⟨"CLASSIFY.W80", 0x16, 0x1F⟩
  | .classifyW128 _ _ => ⟨"CLASSIFY.W128", 0x1E, 0x1F⟩

/-- The request that spec/opcode_table.json's word `w` stands for: the table numbers the bits of `CMD`, `OP` in bits 2..0
and `WSEL` in bits 4..3; it gives the operand words no bits, so they are zero (DEDUCED, entry 8). -/
def tableRequest (nbits w : Nat) : Request :=
  { op := BitVec.ofNat 3 (w % 2 ^ nbits)
    wsel := BitVec.ofNat 2 (w % 2 ^ nbits / 8)
    x0 := 0
    x1 := 0 }

/-- The operation the decoder reads from an opcode table word (entry 8). -/
def decodeTableWord (nbits w : Nat) : Option Instr :=
  match decode (tableRequest nbits w).toBits with
  | .ok i => some i
  | .error _ => none

end Sys2Proof
end

