-- ==== Sys2Proof/Machine/State.lean ====
section
/-! DEFINITION. The state of FPCONV: its ten ports as plain data (10_state R12, R13, R15 to R18). The spec gives the block
no register, flag, memory or hidden state (R10, R11, R14, R19, R21), so nothing else stands here. -/

namespace Sys2Proof.Machine

/-- The ports of one FPCONV block. The straps and the request ports are driven from outside and no operation writes them
(10_state R18, R20); the response ports follow the request and the straps at every moment (10_state R21): `State.reset`,
`State.present` and `step` keep them so (entries 1 and 5). -/
structure State where
  /-- Strap `LAYOUT[1:0]`, code 0 to 3 (10_state R16). -/
  layout : BitVec 2
  /-- Strap `HOST_LE`, 1 = little-endian host (10_state R17). -/
  hostLE : BitVec 1
  /-- Request port `OP[2:0]` (10_state R12). -/
  op : BitVec 3
  /-- Request port `WSEL[1:0]` (10_state R12). -/
  wsel : BitVec 2
  /-- Request port `X0[63:0]` (10_state R12). -/
  x0 : Word
  /-- Request port `X1[63:0]` (10_state R12). -/
  x1 : Word
  /-- Response port `Y0[63:0]` (10_state R13). -/
  y0 : Word
  /-- Response port `Y1[63:0]` (10_state R13). -/
  y1 : Word
  /-- Response port `CLS[2:0]` (10_state R13). -/
  cls : BitVec 3
  /-- Response port `ERR[1:0]` (10_state R13). -/
  err : BitVec 2
deriving DecidableEq, Repr

/-- The data of a successful response (10_state R13). -/
inductive Answer where
  /-- Two data words: the limbs of `ENCX`, the storage words of `DECX`, the value of a pass-through operation. -/
  | words (y0 y1 : Word)
  /-- A class, the answer of `CLASSIFY` (30_encoding R46). -/
  | verdict (c : ValueClass)
deriving DecidableEq, Repr

/-- A response: data or an error kind, never both (10_state R13, 60_exceptions R124). -/
abbrev Response := Except ErrorKind Answer

/-- The faults of the machine: none. FPCONV has no trap, no fault and no stuck state: an error is a value in the response
of the operation that met it (60_exceptions R120, R124; 70_reset_and_hazards R150), that is a next state (entry 17). -/
inductive Fault where
deriving DecidableEq, Repr

/-- The refusals of the machine. -/
inductive Refusal where
  /-- Raised by `exec` for an operation without a meaning in this model; safe. No arm of `exec` raises it. -/
  | notModelled (mnemonic : String)
  /-- Raised by `step` when the request has `OP = 7`, the reserved operation code, for which the spec defines no response
  and asks a model to refuse (30_encoding R50, 93 U1); safe: no response is invented. -/
  | reservedOperation
deriving DecidableEq, Repr

/-- The ports right after reset. The spec gives no reset value to any port (10_state R21, 70_reset_and_hazards R141): every
field is DESIGN CHOICE 0 (entries 2 to 4), and the response ports agree with the response to the request shown. -/
def State.reset : State :=
  { layout := 0
    hostLE := 0
    op := 0
    wsel := 0
    x0 := 0
    x1 := 0
    y0 := 0
    y1 := 0
    cls := 0
    err := 0 }

end Sys2Proof.Machine
end

