-- ==== Sys2Proof/Machine/Flags.lean ====
section
/-! DEFINITION. FPCONV has no flags, condition codes or sticky bits (10_state R14). What it reports beside its data words
are the two coded response ports `CLS` and `ERR`, and what it reads beside its operands is the coded strap `LAYOUT`:
their code tables stand here (30_encoding R46, R47; 10_state R16). -/

namespace Sys2Proof.Machine

/-- The `CLS` code of a class (30_encoding R46). -/
def classCode : ValueClass → BitVec 3
  | .normal => 0
  | .denormal => 1
  | .infinity => 2
  | .nan => 3
  | .unrecognized => 4

/-- The `ERR` code of an error kind; 0 is "no error" (30_encoding R47). -/
def errorCode : ErrorKind → BitVec 2
  | .unknownFloatPattern => 1
  | .unsupportedLongDoubleLayout => 2

/-- The layout a `LAYOUT` code selects (10_state R16). -/
def layoutOfCode (code : BitVec 2) : Layout :=
  match code.toNat with
  | 0 => .doubleAlias
  | 1 => .x87In16
  | 2 => .quad
  | _ => .none

/-- The `LAYOUT` code of a layout (10_state R16). -/
def layoutCode : Layout → BitVec 2
  | .doubleAlias => 0
  | .x87In16 => 1
  | .quad => 2
  | .none => 3

end Sys2Proof.Machine
end

