-- ==== Sys2Proof/Machine/Ops.lean ====
section
/-! DEFINITION. The named operations over the ports: driving and reading a request, reading the straps, and driving the
response (10_state R12 to R18; 30_encoding R40, R45; 60_exceptions R124). There is no memory and no register file to
operate on (10_state R10, 20_memory R25). Taking an error is ONE shared operation, `State.raise`; there is no return
from it, because nothing is saved (60_exceptions R126). -/

namespace Sys2Proof.Machine

/-- The straps as the rules read them (10_state R16, R17). -/
def State.straps (s : State) : Straps :=
  { layout := layoutOfCode s.layout, hostLE := s.hostLE == 1#1 }

/-- The request on the request ports (10_state R12). -/
def State.request (s : State) : Request :=
  { op := s.op, wsel := s.wsel, x0 := s.x0, x1 := s.x1 }

/-- `REQ[132:0]` as the request ports show it (30_encoding R40). -/
def State.req (s : State) : BitVec 133 := s.request.toBits

/-- Drives the four request ports and nothing else (10_state R12). What the response ports then show is `State.settle`. -/
def State.drive (s : State) (r : Request) : State :=
  { s with op := r.op, wsel := r.wsel, x0 := r.x0, x1 := r.x1 }

/-- Drives the response ports with data words: `CLS = 0`, `ERR = 0` (30_encoding R45, R46). -/
def State.answerWords (s : State) (y0 y1 : Word) : State :=
  { s with y0 := y0, y1 := y1, cls := 0, err := 0 }

/-- Drives the response ports with a class: `Y0 = Y1 = 0`, `ERR = 0` (30_encoding R45, R46). -/
def State.answerClass (s : State) (c : ValueClass) : State :=
  { s with y0 := 0, y1 := 0, cls := classCode c, err := 0 }

/-- `raise K`: the error response. `ERR` is the code of `K`, `Y0 = Y1 = 0`, `CLS = 0`; no state is saved, no mode changes,
control does not move (60_exceptions R124). -/
def State.raise (s : State) (k : ErrorKind) : State :=
  { s with y0 := 0, y1 := 0, cls := 0, err := errorCode k }

/-- Drives the response ports with a response (30_encoding R45, 60_exceptions R124). -/
def State.respond (s : State) : Response → State
  | .ok (.words y0 y1) => s.answerWords y0 y1
  | .ok (.verdict c) => s.answerClass c
  | .error k => s.raise k

/-- Drives the response ports with the fields of a response word (30_encoding R45). -/
def State.showWord (s : State) (rsp : BitVec 133) : State :=
  { s with y0 := rsp.extractLsb' 0 64, y1 := rsp.extractLsb' 64 64, cls := rsp.extractLsb' 128 3, err := rsp.extractLsb' 131 2 }

/-- `RSP[132:0] = ERR ∥ CLS ∥ Y1 ∥ Y0` (30_encoding R45). -/
def State.rsp (s : State) : BitVec 133 := s.err ++ s.cls ++ s.y1 ++ s.y0

end Sys2Proof.Machine
end

