-- ==== Sys2Proof/Machine/Operands.lean ====
section
/-! DEFINITION. Operand assembly and data formats: the word order of native objects (20_memory R31, R32), the operand each
operation forms (30_encoding R44), the fields of every format (R53 to R57) and the two exponent operations of the
datapath (44_properties R160, R162, R163). -/

namespace Sys2Proof.Machine

/-- `NatSplit`: storage words to halves by significance (20_memory R31). -/
def natSplit (hostLE : Bool) (w : StorageWords) : Halves :=
  if hostLE then { nh := w.w1, nl := w.w0 } else { nh := w.w0, nl := w.w1 }

/-- `NatJoin`: halves by significance to storage words (20_memory R32). -/
def natJoin (hostLE : Bool) (n : Halves) : StorageWords :=
  if hostLE then { w0 := n.nl, w1 := n.nh } else { w0 := n.nh, w1 := n.nl }

/-- The sign bit `D[63]` of a binary64 pattern (30_encoding R54). -/
def doubleSign (d : Word) : BitVec 1 := d.extractLsb' 63 1

/-- The exponent field `D[62:52]` of a binary64 pattern (30_encoding R54;
the spec's general knowledge, UNVERIFIED, entry 11). -/
def doubleExp (d : Word) : BitVec 11 := d.extractLsb' 52 11

/-- The fraction field `D[51:0]` of a binary64 pattern (30_encoding R54). -/
def doubleFrac (d : Word) : BitVec 52 := d.extractLsb' 0 52

/-- The sign bit `P[127]` of a portable or quad pattern (30_encoding R53, R56). -/
def quadSign (p : Wide) : BitVec 1 := p.extractLsb' 127 1

/-- The exponent field `P[126:112]` of a portable or quad pattern (30_encoding R53, R56). -/
def quadExp (p : Wide) : BitVec 15 := p.extractLsb' 112 15

/-- The fraction field `P[111:0]` of a portable or quad pattern (30_encoding R53, R56). -/
def quadFrac (p : Wide) : BitVec 112 := p.extractLsb' 0 112

/-- The exponent field `v[30:23]` of a binary32 pattern (30_encoding R57;
the spec's general knowledge, UNVERIFIED, entry 11). -/
def singleExp (v : BitVec 32) : BitVec 8 := v.extractLsb' 23 8

/-- The fraction field `v[22:0]` of a binary32 pattern (30_encoding R57;
the spec's general knowledge, UNVERIFIED, entry 11). -/
def singleFrac (v : BitVec 32) : BitVec 23 := v.extractLsb' 0 23

/-- The sign bit `V80[79]` of an x87 pattern (30_encoding R55). -/
def x87Sign (v : BitVec 80) : BitVec 1 := v.extractLsb' 79 1

/-- The exponent field `V80[78:64]` of an x87 pattern (30_encoding R55). -/
def x87Exp (v : BitVec 80) : BitVec 15 := v.extractLsb' 64 15

/-- The explicit integer bit `V80[63]` of an x87 pattern (30_encoding R55). -/
def x87Int (v : BitVec 80) : BitVec 1 := v.extractLsb' 63 1

/-- The significand bits `V80[62:0]` below the integer bit (30_encoding R55). -/
def x87Frac (v : BitVec 80) : BitVec 63 := v.extractLsb' 0 63

/-- The 80 meaningful bits `V80 = NH[15:0] ∥ NL` of an `X87In16` native value; the 48 padding bits above are ignored
(30_encoding R55, conflict C1). -/
def meaningful80 (n : Halves) : BitVec 80 := n.nh.extractLsb' 0 16 ++ n.nl

/-- The 32-bit operand `X0[31:0]` of `ENCF32`, `DECF32` and `CLASSIFY.W32` (30_encoding R44). -/
def operand32 (x0 : Word) : BitVec 32 := x0.extractLsb' 0 32

/-- The pattern `V = X1 ∥ X0` of `CLASSIFY`, `X1` the more significant word (30_encoding R44). -/
def operandV (x0 x1 : Word) : Wide := x1 ++ x0

/-- The re-bias addition `zext_15(e) + 15360`, in 15 bits (41 R73, 44_properties R162). -/
def rebiasUp (e : BitVec 11) : BitVec 15 := e.setWidth 15 + Config.rebias

/-- The re-bias subtraction: `E - 15360` modulo `2^15`, low 11 bits kept (42 R93, R96; 44_properties R163; entry 12). -/
def rebiasDown (e : BitVec 15) : BitVec 11 := (e - Config.rebias).extractLsb' 0 11

end Sys2Proof.Machine
end

