-- ==== Sys2Proof/Machine/Classify.lean ====
section
/-! DEFINITION. The classifier and the four `CLASSIFY` operations (40_classifier R60 to R68). `Unrecognized` is an answer
here, never an error (R63; 60_exceptions R121). -/

namespace Sys2Proof.Machine

/-- `cls_ieee(e, f, we)`: the class of a pattern of an IEEE interchange format with exponent field `e` and fraction field
`f`; zero is classed `Denormal`, the sign is not looked at (40_classifier R65, R66). -/
def clsIeee {we wf : Nat} (e : BitVec we) (f : BitVec wf) : ValueClass :=
  if e = 0#we then .denormal
  else if e = BitVec.allOnes we then
    if f = 0#wf then .infinity else .nan
  else .normal

/-- The class of a binary32 pattern (40_classifier R61). -/
def classify32 (v : BitVec 32) : ValueClass := clsIeee (singleExp v) (singleFrac v)

/-- The class of a binary64 pattern (40_classifier R62). -/
def classify64 (d : Word) : ValueClass := clsIeee (doubleExp d) (doubleFrac d)

/-- The class of an x87 80-bit pattern: with a non-zero exponent field and a zero integer bit the pattern is
`Unrecognized` (40_classifier R63; the spec's general knowledge, UNVERIFIED, entry 11). -/
def classify80 (v : BitVec 80) : ValueClass :=
  if x87Exp v = 0#15 then .denormal
  else if x87Int v = 0#1 then .unrecognized
  else if x87Exp v = 0x7FFF#15 then
    if x87Frac v = 0#63 then .infinity else .nan
  else .normal

/-- The class of a binary128 or portable pattern (40_classifier R64). -/
def classify128 (p : Wide) : ValueClass := clsIeee (quadExp p) (quadFrac p)

/-- `classify(v, w)`: total, reads `v[w-1:0]` only; any width but 32, 64, 80, 128 gives `Unrecognized`
(40_classifier R60). The default of the parameter `CLASSIFIER` (92 D27, entry 10). -/
def classify : Classifier := fun v w =>
  if w = 32 then classify32 (v.extractLsb' 0 32)
  else if w = 64 then classify64 (v.extractLsb' 0 64)
  else if w = 80 then classify80 (v.extractLsb' 0 80)
  else if w = 128 then classify128 v
  else .unrecognized

/-- `CLASSIFY.W32`: the class of `X0[31:0]` (40_classifier R61). -/
def execClassifyW32 (x0 x1 : Word) (s : State) : Host.Outcome State Fault Refusal :=
  .next (s.respond (.ok (.verdict (classify (operandV x0 x1) 32))))

/-- `CLASSIFY.W64`: the class of `X0` (40_classifier R62). -/
def execClassifyW64 (x0 x1 : Word) (s : State) : Host.Outcome State Fault Refusal :=
  .next (s.respond (.ok (.verdict (classify (operandV x0 x1) 64))))

/-- `CLASSIFY.W80`: the class of `X1[15:0] ∥ X0` (40_classifier R63). -/
def execClassifyW80 (x0 x1 : Word) (s : State) : Host.Outcome State Fault Refusal :=
  .next (s.respond (.ok (.verdict (classify (operandV x0 x1) 80))))

/-- `CLASSIFY.W128`: the class of `X1 ∥ X0` (40_classifier R64). -/
def execClassifyW128 (x0 x1 : Word) (s : State) : Host.Outcome State Fault Refusal :=
  .next (s.respond (.ok (.verdict (classify (operandV x0 x1) 128))))

end Sys2Proof.Machine
end

