-- ==== Sys2Proof/Machine/DecodeExtended.lean ====
section
/-! DEFINITION. The extended-precision decoder and `DECX` (42_decode_extended R90 to R101). Every cell takes the classifier
as an argument (92 D27): the machine runs it with `classify`. -/

namespace Sys2Proof.Machine

/-- The shuffle common to the `DoubleAlias` cells: `D = s ∥ e ∥ F[111:60]`; `F[59:0]` is dropped without being looked at
(42 R92, R97; entry 13). -/
def decShuffle (p : Wide) (e : BitVec 11) : Word := quadSign p ++ e ++ (quadFrac p).extractLsb' 60 52

/-- `dec_double(P, c)`: the exponent field chosen by the class `c` of `P` (42 R93 to R96). -/
def decDouble (p : Wide) (c : ValueClass) : Except ErrorKind Word :=
  match c with
  | .normal => .ok (decShuffle p (rebiasDown (quadExp p)))
  | .denormal => .ok (decShuffle p 0#11)
  | .infinity => .ok (decShuffle p 0x7FF#11)
  | .nan => .ok (decShuffle p 0x7FF#11)
  | .unrecognized => .error .unknownFloatPattern

/-- `dec_x87(HI, LO)`: one transform for every class; the padding is written as zero and `LO[47:0]` is dropped
(42 R98; entry 14). -/
def decX87 (l : Limbs) : Halves :=
  { nh := l.hi >>> 48, nl := (l.hi <<< 16) ||| (l.lo >>> 48) }

/-- `decode(hi, lo, layout)`: limbs to the storage words of a native object. `LAYOUT = NONE` is tested first; then the
portable value is classified at width 128, whatever the target layout (42 R90, R91, R98 to R100; 60_exceptions R125). -/
def decodeExtended (K : Classifier) (p : Straps) (l : Limbs) : Except ErrorKind StorageWords :=
  match p.layout, K l.value 128 with
  | .none, _ => .error .unsupportedLongDoubleLayout
  | .doubleAlias, c =>
    match decDouble l.value c with
    | .ok d => .ok { w0 := d, w1 := 0 }
    | .error k => .error k
  | .x87In16, .unrecognized => .error .unknownFloatPattern
  | .x87In16, _ => .ok (natJoin p.hostLE (decX87 l))
  | .quad, .unrecognized => .error .unknownFloatPattern
  | .quad, _ => .ok (natJoin p.hostLE { nh := l.hi, nl := l.lo })

/-- The response of `DECX`: `X0` is the limb HI, `X1` the limb LO; `(Y0, Y1)` are the storage words (42 R90;
20_memory R29, R32). -/
def decxResponse (K : Classifier) (p : Straps) (x0 x1 : Word) : Response :=
  match decodeExtended K p { hi := x0, lo := x1 } with
  | .ok w => .ok (.words w.w0 w.w1)
  | .error k => .error k

/-- `DECX` (42 R90). -/
def execDecx (x0 x1 : Word) (s : State) : Host.Outcome State Fault Refusal :=
  .next (s.respond (decxResponse classify s.straps x0 x1))

end Sys2Proof.Machine
end

