-- ==== Sys2Proof/Machine/EncodeExtended.lean ====
section
/-! DEFINITION. The extended-precision encoder and `ENCX` (41_encode_extended R70 to R82). Every cell takes the classifier
as an argument (92 D27): the machine runs it with `classify`. -/

namespace Sys2Proof.Machine

/-- The shuffle common to the `DoubleAlias` cells: `HI = s ∥ E ∥ f[51:4]`, `LO = f[3:0] ∥ 0^60` (41 R72). -/
def encShuffle (d : Word) (e : BitVec 15) : Limbs :=
  { hi := doubleSign d ++ e ++ (doubleFrac d).extractLsb' 4 48
    lo := (doubleFrac d).extractLsb' 0 4 ++ 0#60 }

/-- `enc_double(D)`: the exponent field chosen by the class (41 R73 to R76). A denormal is not renormalised (R74,
entry 16). -/
def encDouble (K : Classifier) (d : Word) : Except ErrorKind Limbs :=
  match K (d.setWidth 128) 64 with
  | .normal => .ok (encShuffle d (rebiasUp (doubleExp d)))
  | .denormal => .ok (encShuffle d 0#15)
  | .infinity => .ok (encShuffle d 0x7FFF#15)
  | .nan => .ok (encShuffle d 0x7FFF#15)
  | .unrecognized => .error .unknownFloatPattern

/-- `enc_x87(NH, NL)`: one transform for every class but `Unrecognized` (41 R77). The explicit integer bit is carried into
the portable fraction (41 R78). -/
def encX87 (K : Classifier) (n : Halves) : Except ErrorKind Limbs :=
  match K ((meaningful80 n).setWidth 128) 80 with
  | .unrecognized => .error .unknownFloatPattern
  | .normal | .denormal | .infinity | .nan =>
    .ok { hi := (n.nh <<< 48) ||| (n.nl >>> 16), lo := n.nl <<< 48 }

/-- `enc_quad(NH, NL)`: pass through, after the rejection of `Unrecognized` (41 R79, entry 15). -/
def encQuad (K : Classifier) (n : Halves) : Except ErrorKind Limbs :=
  match K n.value 128 with
  | .unrecognized => .error .unknownFloatPattern
  | .normal | .denormal | .infinity | .nan => .ok { hi := n.nh, lo := n.nl }

/-- `encode(native, layout)`: the storage words of a native object to limbs. `LAYOUT = NONE` is tested first, before the
operands are read (41 R70, R71, R80; 60_exceptions R125). -/
def encodeExtended (K : Classifier) (p : Straps) (w : StorageWords) : Except ErrorKind Limbs :=
  match p.layout with
  | .none => .error .unsupportedLongDoubleLayout
  | .doubleAlias => encDouble K w.w0
  | .x87In16 => encX87 K (natSplit p.hostLE w)
  | .quad => encQuad K (natSplit p.hostLE w)

/-- The response of `ENCX`: `Y0 = HI`, `Y1 = LO` whatever `HOST_LE` (41 R81, 20_memory R28). -/
def encxResponse (K : Classifier) (p : Straps) (x0 x1 : Word) : Response :=
  match encodeExtended K p { w0 := x0, w1 := x1 } with
  | .ok l => .ok (.words l.hi l.lo)
  | .error k => .error k

/-- `ENCX` (41 R70). -/
def execEncx (x0 x1 : Word) (s : State) : Host.Outcome State Fault Refusal :=
  .next (s.respond (encxResponse classify s.straps x0 x1))

end Sys2Proof.Machine
end

