-- ==== Sys2Proof/Machine/PassThrough.lean ====
section
/-! DEFINITION. The same-width pass-through (43_passthrough R110 to R115): no classifier, no strap, no error. The unused
operand word is an argument of each meaning and is not read (30_encoding R44, R49). -/

namespace Sys2Proof.Machine

/-- The response of a 32-bit pass-through: `Y0 = zext_64(X0[31:0])`, `Y1 = 0` (43 R111, R112). -/
def pass32 (x0 : Word) : Response := .ok (.words ((operand32 x0).setWidth 64) 0)

/-- The response of a 64-bit pass-through: `Y0 = X0`, `Y1 = 0` (43 R113, R114). -/
def pass64 (x0 : Word) : Response := .ok (.words x0 0)

/-- `ENCF32` (43 R111). -/
def execEncf32 (x0 _x1 : Word) (s : State) : Host.Outcome State Fault Refusal := .next (s.respond (pass32 x0))

/-- `DECF32` (43 R112). -/
def execDecf32 (x0 _x1 : Word) (s : State) : Host.Outcome State Fault Refusal := .next (s.respond (pass32 x0))

/-- `ENCF64` (43 R113). -/
def execEncf64 (x0 _x1 : Word) (s : State) : Host.Outcome State Fault Refusal := .next (s.respond (pass64 x0))

/-- `DECF64` (43 R114). -/
def execDecf64 (x0 _x1 : Word) (s : State) : Host.Outcome State Fault Refusal := .next (s.respond (pass64 x0))

end Sys2Proof.Machine
end

