-- ==== Sys2Proof/Machine/Dispatch.lean ====
section
/-! DEFINITION. The dispatch of operations to their meanings: one arm per constructor of `Instr`. -/

namespace Sys2Proof.Machine

/-- One operation, given its request (30_encoding R42). -/
def exec (i : Instr) (s : State) : Host.Outcome State Fault Refusal :=
  match i with
  | .encx x0 x1 => Sys2Proof.Machine.execEncx x0 x1 s
  | .decx x0 x1 => Sys2Proof.Machine.execDecx x0 x1 s
  | .encf32 x0 x1 => Sys2Proof.Machine.execEncf32 x0 x1 s
  | .decf32 x0 x1 => Sys2Proof.Machine.execDecf32 x0 x1 s
  | .encf64 x0 x1 => Sys2Proof.Machine.execEncf64 x0 x1 s
  | .decf64 x0 x1 => Sys2Proof.Machine.execDecf64 x0 x1 s
  | .classifyW32 x0 x1 => Sys2Proof.Machine.execClassifyW32 x0 x1 s
  | .classifyW64 x0 x1 => Sys2Proof.Machine.execClassifyW64 x0 x1 s
  | .classifyW80 x0 x1 => Sys2Proof.Machine.execClassifyW80 x0 x1 s
  | .classifyW128 x0 x1 => Sys2Proof.Machine.execClassifyW128 x0 x1 s

end Sys2Proof.Machine
end

