-- ==== Sys2Proof/Machine/Ports.lean ====
section
/-! DEFINITION. The response ports at every moment: the block is combinational, so they follow the request ports and the straps
at once, with no step in between (10_state R21; 70_reset_and_hazards R147). -/

namespace Sys2Proof.Machine

/-- The ports once the wires have followed the inputs: the response ports show the response to the request on the request ports
(10_state R21), by the meaning of the operation the request selects. For the reserved request, whose response the spec does
not define, they show a free value (30_encoding R50; entry 26). -/
def State.settle (s : State) : State :=
  match decode s.req with
  | .ok i =>
    match exec i s with
    | .next t => t
    | .fault _ => s
    | .refused _ => s
  | .error .reservedOperation => s.showWord (Config.reservedResponse s.layout s.hostLE s.req)

/-- The requester presents a request: it drives the request ports, and the response ports follow (10_state R20, R21;
70_reset_and_hazards R147). -/
def State.present (s : State) (r : Request) : State := (s.drive r).settle

/-- The ports right after reset on a platform that drives its straps before the first request, as the spec asks it to
(10_state R21; 70_reset_and_hazards R143): `State.reset` with these straps, its response ports following them. -/
def State.resetOn (layout : BitVec 2) (hostLE : BitVec 1) : State :=
  { State.reset with layout := layout, hostLE := hostLE }.settle

end Sys2Proof.Machine
end

