-- ==== Sys2Proof/Machine/Step.lean ====
section
/-! DEFINITION. One step of the converter: one whole operation, from the request on the request ports to the response on
the response ports (10_state R11, R20; 20_memory R35, R39). -/

namespace Sys2Proof.Machine

/-- One step: serve the request on the request ports. The request ports and the straps are left as they are, so the next
step serves the same request again unless the requester presents another (70_reset_and_hazards R147; entry 7). -/
def step (s : State) : Host.Outcome State Fault Refusal :=
  match decode s.req with
  | .ok i => exec i s
  | .error .reservedOperation => .refused .reservedOperation

/-- The opcode table's word `w` put where `step` reads its next request: presented on the request ports, which the response
ports follow (entry 7). -/
def State.withFetchWord (s : State) (nbits w : Nat) : State := s.present (tableRequest nbits w)

end Sys2Proof.Machine
end

