-- ==== Sys2Proof/Machine/Requester.lean ====
section
/-! DEFINITION. The environment of FPCONV: the requester, which presents requests one after another, and the archive, a
first-in first-out sequence of typed items (10_state R11, R20; 20_memory R27 to R29; 60_exceptions R127). Neither is part of
the block or of its state (R27); no definition of the machine uses this file (entry 18). -/

namespace Sys2Proof.Machine

/-- The requester presents a request and the converter serves it (10_state R20, 70_reset_and_hazards R147). -/
def serve (s : State) (r : Request) : Host.Outcome State Fault Refusal := step (s.present r)

/-- The state after a served request, if it is served. -/
def served (s : State) (r : Request) : Option State :=
  match serve s r with
  | .next t => some t
  | .fault _ => none
  | .refused _ => none

/-- A sequence of requests on one block, and the responses `RSP` it gives (10_state R11, 70_reset_and_hazards R145). -/
def serveAll (s : State) : List Request → Option (State × List (BitVec 133))
  | [] => some (s, [])
  | r :: rs =>
    match served s r with
    | none => none
    | some t =>
      match serveAll t rs with
      | none => none
      | some (u, out) => some (u, t.rsp :: out)

/-- An item of the archive: an integer, not a byte string (20_memory R27, R30). -/
inductive ArchiveItem where
  | u32 (v : BitVec 32)
  | u64 (v : Word)
deriving DecidableEq, Repr

/-- The archive: items in the order they were written (20_memory R27). -/
abbrev Archive := List ArchiveItem

/-- `ArchWriteU32(v)` (20_memory R27). -/
def writeU32 (a : Archive) (v : BitVec 32) : Archive := a ++ [.u32 v]

/-- `ArchWriteU64(v)` (20_memory R27). -/
def writeU64 (a : Archive) (v : Word) : Archive := a ++ [.u64 v]

/-- `ArchReadU32()`: the value read and the rest; none where the next item is not a `u32` (20_memory R27). -/
def readU32 : Archive → Option (BitVec 32 × Archive)
  | .u32 v :: a => some (v, a)
  | _ => none

/-- `ArchReadU64()`: the value read and the rest; none where the next item is not a `u64` (20_memory R27). -/
def readU64 : Archive → Option (Word × Archive)
  | .u64 v :: a => some (v, a)
  | _ => none

/-- Writing an extended value: one `ENCX`, then on success `Y0` and then `Y1` to the archive, and on an error neither
limb (20_memory R27, R28; 60_exceptions R127). DESIGN CHOICE (entry 27): the two writes are one function with no archive between
them; whether they are atomic as a pair is the archive's matter and the spec does not give it (20_memory R35). -/
def putExtended (s : State) (w : StorageWords) (a : Archive) : Option (State × Archive) :=
  match served s (Instr.encx w.w0 w.w1).request with
  | none => none
  | some t => some (t, if t.err = 0 then writeU64 (writeU64 a t.y0) t.y1 else a)

/-- Reading an extended value: HI and then LO from the archive, then one `DECX` (20_memory R27, R29). DESIGN CHOICE (entry 27):
the two reads are one function with no archive between them. -/
def getExtended (s : State) (a : Archive) : Option (State × Archive) :=
  match readU64 a with
  | none => none
  | some (hi, a₁) =>
    match readU64 a₁ with
    | none => none
    | some (lo, a₂) =>
      match served s (Instr.decx hi lo).request with
      | none => none
      | some t => some (t, a₂)

/-- Writing a 32-bit value: one `ENCF32`, then `Y0[31:0]` to the archive (20_memory R27). -/
def putF32 (s : State) (v : BitVec 32) (a : Archive) : Option (State × Archive) :=
  match served s (Instr.encf32 (v.setWidth 64) 0).request with
  | none => none
  | some t => some (t, writeU32 a (t.y0.extractLsb' 0 32))

/-- Reading a 32-bit value: one item from the archive, then one `DECF32` (20_memory R27). -/
def getF32 (s : State) (a : Archive) : Option (State × Archive) :=
  match readU32 a with
  | none => none
  | some (v, a₁) =>
    match served s (Instr.decf32 (v.setWidth 64) 0).request with
    | none => none
    | some t => some (t, a₁)

/-- Writing a 64-bit value: one `ENCF64`, then `Y0` to the archive (20_memory R27). -/
def putF64 (s : State) (v : Word) (a : Archive) : Option (State × Archive) :=
  match served s (Instr.encf64 v 0).request with
  | none => none
  | some t => some (t, writeU64 a t.y0)

/-- Reading a 64-bit value: one item from the archive, then one `DECF64` (20_memory R27). -/
def getF64 (s : State) (a : Archive) : Option (State × Archive) :=
  match readU64 a with
  | none => none
  | some (v, a₁) =>
    match served s (Instr.decf64 v 0).request with
    | none => none
    | some t => some (t, a₁)

/-- A scalar field of an object: a float, a double, or an extended-precision object of two storage words. -/
inductive Field where
  | f32 (v : BitVec 32)
  | f64 (v : Word)
  | ext (w : StorageWords)
deriving DecidableEq, Repr

/-- The type of a field, which the reader knows from the object's class. -/
inductive FieldKind where
  | f32
  | f64
  | ext
deriving DecidableEq, Repr

/-- The type of a field. -/
def Field.kind : Field → FieldKind
  | .f32 _ => .f32
  | .f64 _ => .f64
  | .ext _ => .ext

/-- Writing one field (20_memory R27). -/
def putField (s : State) (f : Field) (a : Archive) : Option (State × Archive) :=
  match f with
  | .f32 v => putF32 s v a
  | .f64 v => putF64 s v a
  | .ext w => putExtended s w a

/-- Writing the fields of an object in order. DESIGN CHOICE (entry 18): this requester gives the object up at the first
error; the spec leaves that to the requester (60_exceptions R127). -/
def putObject (s : State) : List Field → Archive → Option (State × Archive)
  | [], a => some (s, a)
  | f :: fs, a =>
    match putField s f a with
    | none => none
    | some (t, a₁) => if t.err = 0 then putObject t fs a₁ else none

/-- Reading one field of a known type: the response words as the field's value; none on an error (20_memory R27). -/
def getField (s : State) (k : FieldKind) (a : Archive) : Option (State × Archive × Field) :=
  match k with
  | .f32 =>
    match getF32 s a with
    | none => none
    | some (t, a₁) => if t.err = 0 then some (t, a₁, .f32 (t.y0.extractLsb' 0 32)) else none
  | .f64 =>
    match getF64 s a with
    | none => none
    | some (t, a₁) => if t.err = 0 then some (t, a₁, .f64 t.y0) else none
  | .ext =>
    match getExtended s a with
    | none => none
    | some (t, a₁) => if t.err = 0 then some (t, a₁, .ext { w0 := t.y0, w1 := t.y1 }) else none

/-- Reading the fields of an object in order (20_memory R27). -/
def getObject (s : State) : List FieldKind → Archive → Option (State × Archive × List Field)
  | [], a => some (s, a, [])
  | k :: ks, a =>
    match getField s k a with
    | none => none
    | some (t, a₁, f) =>
      match getObject t ks a₁ with
      | none => none
      | some (u, a₂, fs) => some (u, a₂, f :: fs)

end Sys2Proof.Machine
end

