-- ==== Sys2Proof/Machine/Value.lean ====
section
/-! DEFINITION. The number a pattern denotes (44_properties, notation of Part B; the spec's general knowledge, 93 G6,
UNVERIFIED, entry 22). No
operation computes it: it serves the statements of R73 and R165 alone. -/

namespace Sys2Proof.Machine

/-- `(-1)^s`. -/
def signValue (s : BitVec 1) : ℚ := if s = 1 then -1 else 1

/-- `(-1)^s * 2^(x-b) * (1 + y/2^t)`: the value of a `Normal` pattern with exponent field `x`, fraction field `y` of `t`
bits and bias `b`. -/
def normalValue (s : BitVec 1) (x b y t : Nat) : ℚ :=
  signValue s * (2 : ℚ) ^ ((x : ℤ) - (b : ℤ)) * (1 + (y : ℚ) / 2 ^ t)

/-- `(-1)^s * 2^(1-b) * (y/2^t)`: the value of a zero or subnormal pattern. -/
def subnormalValue (s : BitVec 1) (b y t : Nat) : ℚ :=
  signValue s * (2 : ℚ) ^ ((1 : ℤ) - (b : ℤ)) * ((y : ℚ) / 2 ^ t)

/-- The number a binary64 pattern denotes; infinities and NaNs denote none. -/
def doubleValue (d : Word) : Option ℚ :=
  match classify64 d with
  | .normal => some (normalValue (doubleSign d) (doubleExp d).toNat Config.biasDouble (doubleFrac d).toNat 52)
  | .denormal => some (subnormalValue (doubleSign d) Config.biasDouble (doubleFrac d).toNat 52)
  | .infinity | .nan | .unrecognized => none

/-- The number a binary128 pattern denotes; infinities and NaNs denote none. -/
def quadValue (p : Wide) : Option ℚ :=
  match classify128 p with
  | .normal => some (normalValue (quadSign p) (quadExp p).toNat Config.biasPortable (quadFrac p).toNat 112)
  | .denormal => some (subnormalValue (quadSign p) Config.biasPortable (quadFrac p).toNat 112)
  | .infinity | .nan | .unrecognized => none

end Sys2Proof.Machine
end

