-- ==== Sys2Proof/Safety.lean ====
section
/-! DEFINITION. The terms in which statements about FPCONV speak: legal response ports, settled ports, an admissible
classifier, and what an object written on one platform is when another platform has read it. -/

namespace Sys2Proof.Machine

/-- The response ports hold a response that the spec allows: `CLS` codes 5 to 7 and `ERR` code 3 never appear (30_encoding
R46, R47); an error comes with no data and no class (60_exceptions R124); a class comes with no data (30_encoding R45). -/
abbrev LegalResponse (s : State) : Prop :=
  s.cls.toNat ≤ 4 ∧ s.err.toNat ≤ 2 ∧
  (s.err ≠ 0 → s.y0 = 0 ∧ s.y1 = 0 ∧ s.cls = 0) ∧
  (s.cls ≠ 0 → s.y0 = 0 ∧ s.y1 = 0 ∧ s.err = 0)

/-- The error shown is one that the layout of the block can give: `UnsupportedLongDoubleLayout` only under `NONE`,
`UnknownFloatPattern` only under `X87In16` (60_exceptions R122, R123; 40_classifier R68). -/
abbrev ErrorFitsLayout (s : State) : Prop :=
  (s.err = errorCode .unsupportedLongDoubleLayout → s.layout = layoutCode .none) ∧
  (s.err = errorCode .unknownFloatPattern → s.layout = layoutCode .x87In16)

/-- The response ports show the response to the request on the request ports: serving it once more changes nothing
(10_state R21, 20_memory R35). -/
def Settled (s : State) : Prop := step s = .next s

/-- The response ports follow the request ports and the straps, at this moment: they show the response to any request but the
reserved one, which has none (10_state R21, 30_encoding R50). -/
def PortsFollow (s : State) : Prop := s.op ≠ 7#3 → Settled s

/-- The properties P1 to P4 that a classifier put in the place of the default has to have (40_classifier R60). -/
structure AdmissibleClassifier (K : Classifier) : Prop where
  /-- P1: dependence on `(v[w-1:0], w)` only. -/
  low_bits : ∀ (v v' : Wide) (w : Nat), (∀ i, i < w → v.getLsbD i = v'.getLsbD i) → K v w = K v' w
  /-- P2 at width 64, exponent field all zeros. -/
  zeros64 : ∀ d : Word, doubleExp d = 0#11 → K (d.setWidth 128) 64 = .denormal
  /-- P2 at width 64, exponent field all ones. -/
  ones64 : ∀ d : Word, doubleExp d = 0x7FF#11 → K (d.setWidth 128) 64 = .infinity ∨ K (d.setWidth 128) 64 = .nan
  /-- P2 at width 64, any other exponent field. -/
  other64 : ∀ d : Word, doubleExp d ≠ 0#11 → doubleExp d ≠ 0x7FF#11 → K (d.setWidth 128) 64 = .normal
  /-- P2 at width 128, exponent field all zeros. -/
  zeros128 : ∀ p : Wide, quadExp p = 0#15 → K p 128 = .denormal
  /-- P2 at width 128, exponent field all ones. -/
  ones128 : ∀ p : Wide, quadExp p = 0x7FFF#15 → K p 128 = .infinity ∨ K p 128 = .nan
  /-- P2 at width 128, any other exponent field. -/
  other128 : ∀ p : Wide, quadExp p ≠ 0#15 → quadExp p ≠ 0x7FFF#15 → K p 128 = .normal
  /-- P3 at width 64. -/
  total64 : ∀ d : Word, K (d.setWidth 128) 64 ≠ .unrecognized
  /-- P3 at width 128. -/
  total128 : ∀ p : Wide, K p 128 ≠ .unrecognized
  /-- P4: the class of a double is the class of the portable value `ENCX` makes of it. -/
  class_kept : ∀ (d : Word) (l : Limbs), encDouble K d = .ok l → K l.value 128 = K (d.setWidth 128) 64

/-- The native object without what the layout does not carry: the second word of a `DoubleAlias` object, the 48 padding
bits of an `X87In16` object (44_properties R164, conflict C6). `p` is the writer, `q` the reader. -/
def objectAsRead (p q : Straps) (w : StorageWords) : StorageWords :=
  match p.layout with
  | .doubleAlias => { w0 := w.w0, w1 := 0 }
  | .x87In16 =>
    natJoin q.hostLE { nh := (meaningful80 (natSplit p.hostLE w)).extractLsb' 64 16 |>.setWidth 64
                       nl := (natSplit p.hostLE w).nl }
  | .quad => natJoin q.hostLE (natSplit p.hostLE w)
  | .none => w

/-- A field as a platform of the same layout reads it (44_properties R164, R167). -/
def Field.asRead (p q : Straps) : Field → Field
  | .f32 v => .f32 v
  | .f64 v => .f64 v
  | .ext w => .ext (objectAsRead p q w)

/-- The writer's encoder accepts the field: pass-through fields always, an extended field where its layout is known and the
classifier recognises the pattern (60_exceptions R123). -/
def Field.accepted (p : Straps) : Field → Bool
  | .f32 _ => true
  | .f64 _ => true
  | .ext w =>
    match p.layout with
    | .doubleAlias => true
    | .x87In16 => classify80 (meaningful80 (natSplit p.hostLE w)) != .unrecognized
    | .quad => true
    | .none => false

/-- `enc(L, N)` as one 128-bit value: the portable value that the encoder makes of a native object, or its error
(44_properties, notation of Part B). -/
def portableOf (K : Classifier) (p : Straps) (w : StorageWords) : Except ErrorKind Wide :=
  (encodeExtended K p w).map Limbs.value

/-- The sign bit of a native object: `D[63]`, `N[79]` or `N[127]` (44_properties R166). -/
def nativeSign (p : Straps) (w : StorageWords) : BitVec 1 :=
  match p.layout with
  | .doubleAlias => doubleSign w.w0
  | .x87In16 => x87Sign (meaningful80 (natSplit p.hostLE w))
  | .quad => quadSign (natSplit p.hostLE w).value
  | .none => 0

/-- The operand bits that the operation on the request ports reads, every ignored bit as zero, written as `X1 ∥ X0`
(30_encoding R44, its columns "words read" and "words ignored"; opcode_table.json, "ignored"). -/
def State.bitsRead (s : State) : Wide :=
  match s.op.toNat, s.layout.toNat with
  | 0, 0 => 0#64 ++ s.x0
  | 0, 1 => if s.hostLE = 1 then (s.x1 &&& 0xFFFF) ++ s.x0 else s.x1 ++ (s.x0 &&& 0xFFFF)
  | 0, 2 => s.x1 ++ s.x0
  | 0, _ => 0
  | 1, 3 => 0
  | 1, _ => s.x1 ++ s.x0
  | 2, _ => 0#64 ++ (s.x0 &&& 0xFFFFFFFF)
  | 3, _ => 0#64 ++ (s.x0 &&& 0xFFFFFFFF)
  | 4, _ => 0#64 ++ s.x0
  | 5, _ => 0#64 ++ s.x0
  | _, _ =>
    match s.wsel.toNat with
    | 0 => 0#64 ++ (s.x0 &&& 0xFFFFFFFF)
    | 1 => 0#64 ++ s.x0
    | 2 => (s.x1 &&& 0xFFFF) ++ s.x0
    | _ => s.x1 ++ s.x0

/-- `WSEL` where it is read, zero where it is ignored (30_encoding R43, R49). -/
def State.wselRead (s : State) : BitVec 2 := if s.op = 6 then s.wsel else 0

end Sys2Proof.Machine
end

