-- ==== Sys2Proof/Certificates/Slice0/Obligations.lean ====
section
/-! DEFINITION. The statements for the provers. Each docstring names the rule of spec/ it formalises. FPCONV has no memory, no
register, no flag and no program counter (10_state R10, R11, R14; 20_memory R25), so a frame speaks of the ports: the
equations below give the whole next state, and `OperationsWriteOnlyResponsePorts` gives the frame of every operation.
Rules that the spec itself marks as derived from others (R19, R68, R82, R94, R95, R101, R112, R114, R123, R126, R162 to R170 but
R163) are formalised with basis 'derived'. -/

open Sys2Proof Sys2Proof.Machine

/-! ### Encoding -/

/-- Every operation, with every operand word, is what its request word decodes to (30_encoding R40, R42, R52). -/
def Obligations.DecodeEncodeRoundTrip : Prop :=
  ∀ i : Instr, decode (encode i) = .ok i

/-- A request word that decodes is the encoding of its operation, up to `WSEL` where `WSEL` is ignored
(30_encoding R40, R43, R49). -/
def Obligations.EncodeOfDecodedClearsIgnoredWsel : Prop :=
  ∀ (b : BitVec 133) (i : Instr), decode b = .ok i →
    encode i = if b.extractLsb' 128 3 = 6#3 then b else 0#2 ++ b.extractLsb' 0 131

/-- The operation map: a request selects exactly the operation in whose row `CMD` matches under the mask, with the operand
words of the request, and is rejected exactly for `OP = 7` (30_encoding R42). -/
def Obligations.OpcodeMapSelectsTheOperation : Prop :=
  ∀ b : BitVec 133,
    (∀ i : Instr, decode b = .ok i ↔
      b.extractLsb' 128 5 &&& i.row.mask = i.row.pattern ∧ i.operands = (b.extractLsb' 0 64, b.extractLsb' 64 64)) ∧
    (decode b = .error .reservedOperation ↔ b.extractLsb' 128 3 = 7#3)

/-- Request words written out in spec/95 section 2.8 decode to the operations they stand for there (30_encoding R40, R42). -/
def Obligations.SpecWordsDecode : Prop :=
  decode 0x00ABCDEF0123453FFF8000000000000000#133 = .ok (.encx 0x8000000000000000 0xABCDEF0123453FFF) ∧
  decode 0x0100000000000000003FFF800000000000#133 = .ok (.decx 0x3FFF800000000000 0) ∧
  decode 0x0200000000000000000000000042F6E979#133 = .ok (.encf32 0x42F6E979 0) ∧
  decode 0x05000000000000000040B62E0328B6D86F#133 = .ok (.decf64 0x40B62E0328B6D86F 0) ∧
  decode 0x16ABCDEF0123453FFF8000000000000000#133 = .ok (.classifyW80 0x8000000000000000 0xABCDEF0123453FFF) ∧
  decode 0x18ABCDEF0123453FFF8000000000000000#133 = .ok (.encx 0x8000000000000000 0xABCDEF0123453FFF)

/-- A step runs the operation that the request ports show, and does nothing around it (10_state R20, 20_memory R39). -/
def Obligations.StepRunsTheDecodedOperation : Prop :=
  ∀ (s : State) (i : Instr), decode (s.wsel ++ s.op ++ s.x1 ++ s.x0) = .ok i → step s = exec i s

/-- `OP = 7` is invalid for the decoder and refused by the step, and it is the only request that does not complete, whatever
the straps, `WSEL`, `X0` and `X1` (30_encoding R50, 70_reset_and_hazards R150). -/
def Obligations.OnlyTheReservedCodeIsRefused : Prop :=
  ∀ s : State,
    (s.op = 7#3 → decode (s.wsel ++ s.op ++ s.x1 ++ s.x0) = .error .reservedOperation ∧
      step s = .refused .reservedOperation) ∧
    (s.op ≠ 7#3 → ∃ t, step s = .next t)

/-! ### The classifier -/

/-- `CLASSIFY.W32` completes with the class of the binary32 pattern `X0[31:0]` (40_classifier R61). -/
def Obligations.ClassifyW32Result : Prop :=
  ∀ (x0 x1 : Word) (s : State),
    let e := x0.extractLsb' 23 8
    let f := x0.extractLsb' 0 23
    exec (.classifyW32 x0 x1) s = .next { s with
      y0 := 0, y1 := 0, err := 0
      cls := if e = 0#8 then 1 else if e = 255#8 then (if f = 0#23 then 2 else 3) else 0 }

/-- `CLASSIFY.W64` completes with the class of the binary64 pattern `X0` (40_classifier R62). -/
def Obligations.ClassifyW64Result : Prop :=
  ∀ (x0 x1 : Word) (s : State),
    let e := x0.extractLsb' 52 11
    let f := x0.extractLsb' 0 52
    exec (.classifyW64 x0 x1) s = .next { s with
      y0 := 0, y1 := 0, err := 0
      cls := if e = 0#11 then 1 else if e = 2047#11 then (if f = 0#52 then 2 else 3) else 0 }

/-- `CLASSIFY.W80` completes with the class of the x87 pattern `X1[15:0] ∥ X0`; `Unrecognized` is a class here and no error
(40_classifier R63). -/
def Obligations.ClassifyW80Result : Prop :=
  ∀ (x0 x1 : Word) (s : State),
    let e := x1.extractLsb' 0 15
    let j := x0.extractLsb' 63 1
    let m := x0.extractLsb' 0 63
    exec (.classifyW80 x0 x1) s = .next { s with
      y0 := 0, y1 := 0, err := 0
      cls := if e = 0#15 then 1 else if j = 0#1 then 4 else if e = 32767#15 then (if m = 0#63 then 2 else 3) else 0 }

/-- `CLASSIFY.W128` completes with the class of the binary128 pattern `X1 ∥ X0`; the fraction test covers both words
(40_classifier R64). -/
def Obligations.ClassifyW128Result : Prop :=
  ∀ (x0 x1 : Word) (s : State),
    let e := x1.extractLsb' 48 15
    exec (.classifyW128 x0 x1) s = .next { s with
      y0 := 0, y1 := 0, err := 0
      cls := if e = 0#15 then 1
        else if e = 32767#15 then (if x1.extractLsb' 0 48 = 0#48 ∧ x0 = 0#64 then 2 else 3) else 0 }

/-- A pattern whose exponent and fraction fields are zero, of either sign, is classed `Denormal` at every width
(40_classifier R66). -/
def Obligations.ZeroIsDenormalAtEveryWidth : Prop :=
  ∀ v : Wide,
    (v.extractLsb' 0 31 = 0#31 → classify v 32 = .denormal) ∧
    (v.extractLsb' 0 63 = 0#63 → classify v 64 = .denormal) ∧
    (v.extractLsb' 0 79 = 0#79 → classify v 80 = .denormal) ∧
    (v.extractLsb' 0 127 = 0#127 → classify v 128 = .denormal)

/-- Of the four widths, `Unrecognized` is produced at 80 alone, for the patterns with a non-zero exponent field and a zero
integer bit; these are `2 * 32767 * 2^63` patterns (40_classifier R68). -/
def Obligations.UnrecognizedOnlyAtWidth80 : Prop :=
  (∀ v : Wide,
    classify v 32 ≠ .unrecognized ∧ classify v 64 ≠ .unrecognized ∧ classify v 128 ≠ .unrecognized ∧
    (classify v 80 = .unrecognized ↔ v.extractLsb' 64 15 ≠ 0#15 ∧ v.extractLsb' 63 1 = 0#1)) ∧
  Nat.card { v : BitVec 80 // classify80 v = .unrecognized } = 2 * 32767 * 2 ^ 63

/-- The default classifier has the properties P1 to P4 that the spec asks of any classifier, and gives `Unrecognized` at
every width but 32, 64, 80 and 128 (40_classifier R60). -/
def Obligations.DefaultClassifierIsAdmissible : Prop :=
  AdmissibleClassifier classify ∧
  ∀ (v : Wide) (w : Nat), w ≠ 32 → w ≠ 64 → w ≠ 80 → w ≠ 128 → classify v w = .unrecognized

/-! ### `ENCX` -/

/-- `ENCX` under `DoubleAlias` completes with `P = s ∥ E ∥ f ∥ 0^60`, `E` by the exponent field (41_encode_extended R72
to R75). -/
def Obligations.EncxDoubleAliasResult : Prop :=
  ∀ (x0 x1 : Word) (s : State), s.layout = 0#2 →
    let e := x0.extractLsb' 52 11
    let E : BitVec 15 :=
      if e = 0#11 then 0 else if e = 2047#11 then 32767 else BitVec.ofNat 15 (e.toNat + 15360)
    let P : Wide := x0.extractLsb' 63 1 ++ E ++ x0.extractLsb' 0 52 ++ 0#60
    exec (.encx x0 x1) s = .next { s with
      y0 := P.extractLsb' 64 64, y1 := P.extractLsb' 0 64, cls := 0, err := 0 }

/-- `ENCX` under `X87In16` completes with `P = V80 ∥ 0^48`, or with `UnknownFloatPattern` where the class of `V80` is
`Unrecognized`; `V80` lies by significance, whatever the padding (41_encode_extended R77). -/
def Obligations.EncxX87Result : Prop :=
  ∀ (x0 x1 : Word) (s : State), s.layout = 1#2 →
    let se := if s.hostLE = 1#1 then x1 else x0
    let sig := if s.hostLE = 1#1 then x0 else x1
    let V80 : BitVec 80 := se.extractLsb' 0 16 ++ sig
    let P : Wide := V80 ++ 0#48
    exec (.encx x0 x1) s = .next
      (if classify80 V80 = .unrecognized
        then { s with y0 := 0, y1 := 0, cls := 0, err := 1 }
        else { s with y0 := P.extractLsb' 64 64, y1 := P.extractLsb' 0 64, cls := 0, err := 0 })

/-- `ENCX` under `Quad` completes with the halves by significance, HI first (41_encode_extended R79). -/
def Obligations.EncxQuadResult : Prop :=
  ∀ (x0 x1 : Word) (s : State), s.layout = 2#2 →
    exec (.encx x0 x1) s = .next { s with
      y0 := if s.hostLE = 1#1 then x1 else x0
      y1 := if s.hostLE = 1#1 then x0 else x1
      cls := 0, err := 0 }

/-- Under `NONE`, `ENCX` and `DECX` complete with `UnsupportedLongDoubleLayout` for every operand (41_encode_extended R80,
42_decode_extended R100). -/
def Obligations.ExtendedOperationsFailWithoutLayout : Prop :=
  ∀ (x0 x1 : Word) (s : State), s.layout = 3#2 →
    exec (.encx x0 x1) s = .next { s with y0 := 0, y1 := 0, cls := 0, err := 2 } ∧
    exec (.decx x0 x1) s = .next { s with y0 := 0, y1 := 0, cls := 0, err := 2 }

/-- The encoder's table keyed by class and layout, for EVERY classifier put in the place of the default, the cells that the
default never reaches among them (41_encode_extended R82, R76). -/
def Obligations.EncodeTableForEveryClassifier : Prop :=
  ∀ (K : Classifier) (h : Bool) (w : StorageWords),
    let c := K (w.w0.setWidth 128) 64
    let n := natSplit h w
    let V80 : BitVec 80 := n.nh.extractLsb' 0 16 ++ n.nl
    let double (E : BitVec 15) : Wide := w.w0.extractLsb' 63 1 ++ E ++ w.w0.extractLsb' 0 52 ++ 0#60
    (c = .normal → portableOf K { layout := .doubleAlias, hostLE := h } w =
      .ok (double ((w.w0.extractLsb' 52 11).setWidth 15 + 15360#15))) ∧
    (c = .denormal → portableOf K { layout := .doubleAlias, hostLE := h } w = .ok (double 0#15)) ∧
    (c = .infinity ∨ c = .nan → portableOf K { layout := .doubleAlias, hostLE := h } w = .ok (double 32767#15)) ∧
    (c = .unrecognized → portableOf K { layout := .doubleAlias, hostLE := h } w = .error .unknownFloatPattern) ∧
    portableOf K { layout := .x87In16, hostLE := h } w =
      (if K (V80.setWidth 128) 80 = .unrecognized then .error .unknownFloatPattern else .ok (V80 ++ 0#48)) ∧
    portableOf K { layout := .quad, hostLE := h } w =
      (if K (n.nh ++ n.nl) 128 = .unrecognized then .error .unknownFloatPattern else .ok (n.nh ++ n.nl)) ∧
    portableOf K { layout := .none, hostLE := h } w = .error .unsupportedLongDoubleLayout

/-- A normal double is re-biased without wrapping into `15361 .. 17406`, and its portable value denotes the same number
(41_encode_extended R73, 44_properties R162). -/
def Obligations.NormalDoubleKeepsItsNumber : Prop :=
  ∀ d : Word, classify64 d = .normal →
    ∃ l, encDouble classify d = .ok l ∧
      (quadExp l.value).toNat = (doubleExp d).toNat + 15360 ∧
      15361 ≤ (quadExp l.value).toNat ∧ (quadExp l.value).toNat ≤ 17406 ∧
      ∃ q : ℚ, doubleValue d = some q ∧ quadValue l.value = some q

/-- A zero or subnormal double is shuffled and not renormalised: its exponent field stays zero, zero keeps its sign, the
number it denotes shrinks by `2^15360`, and `DECX` under `DoubleAlias` restores the pattern (41_encode_extended R74). -/
def Obligations.DenormalDoubleIsNotRenormalized : Prop :=
  ∀ d : Word, doubleExp d = 0#11 →
    ∃ l, encDouble classify d = .ok l ∧
      l.value = doubleSign d ++ 0#15 ++ doubleFrac d ++ 0#60 ∧
      (doubleFrac d = 0#52 → l = { hi := doubleSign d ++ 0#63, lo := 0 }) ∧
      (∃ q : ℚ, quadValue l.value = some q ∧ doubleValue d = some (q * 2 ^ 15360)) ∧
      ∀ h, decodeExtended classify { layout := .doubleAlias, hostLE := h } l = .ok { w0 := d, w1 := 0 }

/-! ### `DECX` -/

/-- `DECX` under `DoubleAlias` completes with `D = s ∥ e ∥ F[111:60]`, `e` by the exponent field: 0 for 0 (R94), 2047 for 32767
(R95), and `E - 15360` modulo `2^15` cut to 11 bits for a normal `P`, in and out of the double's range (42_decode_extended R92,
R93, R96; 44_properties R163). R94 and R95 are marked as derived in the spec. -/
def Obligations.DecxDoubleAliasResult : Prop :=
  ∀ (x0 x1 : Word) (s : State), s.layout = 0#2 →
    let P : Wide := x0 ++ x1
    let E := P.extractLsb' 112 15
    let e : BitVec 11 :=
      if E = 0#15 then 0 else if E = 32767#15 then 2047
      else BitVec.ofNat 11 ((E.toNat + 32768 - 15360) % 32768 % 2048)
    exec (.decx x0 x1) s = .next { s with
      y0 := P.extractLsb' 127 1 ++ e ++ P.extractLsb' 60 52, y1 := 0, cls := 0, err := 0 }

/-- `DECX` under `DoubleAlias` drops `F[59:0]` without looking at it, and a NaN whose payload lies wholly there decodes to an
infinity (42_decode_extended R97). -/
def Obligations.DecxDropsLowFractionBits : Prop :=
  ∀ (s : State), s.layout = 0#2 →
    (∀ x0 x1 x1' : Word, x1.extractLsb' 60 4 = x1'.extractLsb' 60 4 →
      ∃ t, exec (.decx x0 x1) s = .next t ∧ exec (.decx x0 x1') s = .next t ∧ t.err = 0) ∧
    (∀ x0 x1 : Word, classify128 (x0 ++ x1) = .nan → x0.extractLsb' 0 48 = 0#48 → x1.extractLsb' 60 4 = 0#4 →
      ∃ t, exec (.decx x0 x1) s = .next t ∧ t.y0 = x0.extractLsb' 63 1 ++ 0x7FF#11 ++ 0#52 ∧
        classify64 t.y0 = .infinity)

/-- `DECX` under `X87In16` completes with `N = 0^48 ∥ P[127:48]` in storage order, for every `P` (42_decode_extended R98). -/
def Obligations.DecxX87Result : Prop :=
  ∀ (x0 x1 : Word) (s : State), s.layout = 1#2 →
    let N : Wide := 0#48 ++ (x0 ++ x1 : Wide).extractLsb' 48 80
    exec (.decx x0 x1) s = .next { s with
      y0 := if s.hostLE = 1#1 then N.extractLsb' 0 64 else N.extractLsb' 64 64
      y1 := if s.hostLE = 1#1 then N.extractLsb' 64 64 else N.extractLsb' 0 64
      cls := 0, err := 0 }

/-- `DECX` under `Quad` completes with all 128 bits in storage order (42_decode_extended R99). -/
def Obligations.DecxQuadResult : Prop :=
  ∀ (x0 x1 : Word) (s : State), s.layout = 2#2 →
    exec (.decx x0 x1) s = .next { s with
      y0 := if s.hostLE = 1#1 then x1 else x0
      y1 := if s.hostLE = 1#1 then x0 else x1
      cls := 0, err := 0 }

/-- The decoder's table keyed by the class at width 128 and the target layout, for EVERY classifier (42_decode_extended
R101). -/
def Obligations.DecodeTableForEveryClassifier : Prop :=
  ∀ (K : Classifier) (h : Bool) (l : Limbs),
    let P : Wide := l.hi ++ l.lo
    let c := K P 128
    let native (L : Layout) := decodeExtended K { layout := L, hostLE := h } l
    let stored (N : Wide) := natJoin h { nh := N.extractLsb' 64 64, nl := N.extractLsb' 0 64 }
    let double (e : BitVec 11) : StorageWords := { w0 := P.extractLsb' 127 1 ++ e ++ P.extractLsb' 60 52, w1 := 0 }
    native .none = .error .unsupportedLongDoubleLayout ∧
    (c = .unrecognized → ∀ L, L ≠ .none → native L = .error .unknownFloatPattern) ∧
    (c = .normal → native .doubleAlias = .ok (double ((P.extractLsb' 112 15 - 15360#15).extractLsb' 0 11))) ∧
    (c = .denormal → native .doubleAlias = .ok (double 0#11)) ∧
    (c = .infinity ∨ c = .nan → native .doubleAlias = .ok (double 2047#11)) ∧
    (c ≠ .unrecognized →
      native .x87In16 = .ok (stored (0#48 ++ P.extractLsb' 48 80)) ∧ native .quad = .ok (stored P))

/-! ### The pass-through -/

/-- The four pass-through operations complete with their value unchanged, on every block, under every layout
(43_passthrough R111 to R114). -/
def Obligations.PassThroughResults : Prop :=
  ∀ (x0 x1 : Word) (s : State),
    exec (.encf32 x0 x1) s = .next { s with y0 := 0#32 ++ x0.extractLsb' 0 32, y1 := 0, cls := 0, err := 0 } ∧
    exec (.decf32 x0 x1) s = .next { s with y0 := 0#32 ++ x0.extractLsb' 0 32, y1 := 0, cls := 0, err := 0 } ∧
    exec (.encf64 x0 x1) s = .next { s with y0 := x0, y1 := 0, cls := 0, err := 0 } ∧
    exec (.decf64 x0 x1) s = .next { s with y0 := x0, y1 := 0, cls := 0, err := 0 }

/-! ### Errors -/

/-- Under `NONE` neither the operands, nor `HOST_LE`, nor the classifier play a part: the layout error comes first, in both
directions, whatever the classifier would say (60_exceptions R125). -/
def Obligations.LayoutErrorComesFirst : Prop :=
  ∀ (K : Classifier) (h : Bool),
    (∀ w, encodeExtended K { layout := .none, hostLE := h } w = .error .unsupportedLongDoubleLayout) ∧
    (∀ l, decodeExtended K { layout := .none, hostLE := h } l = .error .unsupportedLongDoubleLayout) ∧
    ∀ L, L ≠ .none →
      (∀ w, encodeExtended K { layout := L, hostLE := h } w ≠ .error .unsupportedLongDoubleLayout) ∧
      (∀ l, decodeExtended K { layout := L, hostLE := h } l ≠ .error .unsupportedLongDoubleLayout)

/-- Which operation raises which error, exactly (60_exceptions R123). -/
def Obligations.ErrorsOccurExactlyWhere : Prop :=
  ∀ (i : Instr) (s : State), ∃ t, exec i s = .next t ∧
    (t.err = 2 ↔ s.layout = 3#2 ∧ ∃ x0 x1, i = .encx x0 x1 ∨ i = .decx x0 x1) ∧
    (t.err = 1 ↔ s.layout = 1#2 ∧ ∃ x0 x1, i = .encx x0 x1 ∧
      classify80 (meaningful80 (natSplit (s.hostLE == 1#1) { w0 := x0, w1 := x1 })) = .unrecognized)

/-- An error response carries its code and no data, and nothing else happens; only `CLASSIFY` shows a class
(60_exceptions R124; 30_encoding R45, R46). -/
def Obligations.ErrorResponseCarriesNoData : Prop :=
  ∀ (i : Instr) (s t : State), exec i s = .next t →
    (t.err ≠ 0 → t = { s with y0 := 0, y1 := 0, cls := 0, err := t.err } ∧ (t.err = 1 ∨ t.err = 2)) ∧
    ((∀ x0 x1, i ≠ .classifyW32 x0 x1 ∧ i ≠ .classifyW64 x0 x1 ∧ i ≠ .classifyW80 x0 x1 ∧ i ≠ .classifyW128 x0 x1) →
      t.cls = 0)

/-- After an error the next request, whichever it is, is served as if the failed one had not been made, and the failed
request fails the same way again (60_exceptions R126). -/
def Obligations.FailedRequestLeavesNoTrace : Prop :=
  ∀ (s t : State) (r : Request), served s r = some t → t.err ≠ 0 →
    (∀ r' : Request, serve t r' = serve s r') ∧ served t r = some t

/-! ### Statelessness, frames, invariants -/

/-- The step is a function of the straps and the request: what the response ports held before plays no part
(10_state R19). -/
def Obligations.SameRequestSameResponse : Prop :=
  ∀ s s' : State, s.straps = s'.straps → s.req = s'.req →
    (step s = .refused .reservedOperation ∧ step s' = .refused .reservedOperation) ∨
    ∃ t t', step s = .next t ∧ step s' = .next t' ∧ t.rsp = t'.rsp

/-- Any sequence of requests is served, each exactly as it would be served alone on the block as it was at the beginning, so
the order of requests and what stands between them play no part (44_properties R169, 70_reset_and_hazards R145). -/
def Obligations.ResponsesDoNotDependOnOrder : Prop :=
  ∀ (s : State) (rs : List Request), (∀ r ∈ rs, r.op ≠ 7#3) →
    ∃ u out, serveAll s rs = some (u, out) ∧ u.straps = s.straps ∧
      List.Forall₂ (fun r o => ∃ t, served s r = some t ∧ o = t.rsp) rs out

/-- No operation writes a strap or a request port, and the two data ports, `CLS` and `ERR` are all that an operation writes:
the frame of all ten operations (10_state R12, R13, R18). -/
def Obligations.OperationsWriteOnlyResponsePorts : Prop :=
  ∀ (i : Instr) (s t : State), exec i s = .next t →
    t.layout = s.layout ∧ t.hostLE = s.hostLE ∧ t.op = s.op ∧ t.wsel = s.wsel ∧ t.x0 = s.x0 ∧ t.x1 = s.x1

/-- A step from any ports at all leaves legal response ports, an error that fits the layout, ports that serving the same
request again does not change, and the straps and the request as they were (10_state R21; 20_memory R35; 30_encoding R46,
R47; 60_exceptions R122 to R124). -/
def Obligations.EveryStepLeavesLegalSettledPorts : Prop :=
  ∀ s t : State, step s = .next t →
    LegalResponse t ∧ ErrorFitsLayout t ∧ Settled t ∧ t.straps = s.straps ∧ t.request = s.request

/-- The ports after reset are legal and settled, on every platform; `State.reset` is the platform whose straps are 0. The
values are the model's choice (entries 2 to 4): the spec gives no reset value, and says that after reset the response ports
show the response to the request presented (10_state R21). -/
def Obligations.ResetPortsAreLegalAndSettled : Prop :=
  State.reset = State.resetOn 0#2 0#1 ∧
  ∀ (L : BitVec 2) (h : BitVec 1), (State.resetOn L h).layout = L ∧ (State.resetOn L h).hostLE = h ∧
    LegalResponse (State.resetOn L h) ∧ ErrorFitsLayout (State.resetOn L h) ∧ Settled (State.resetOn L h)

/-- Two blocks with the same straps and the same operation, whose requests agree in the bits that the operation reads, give
the same response: `WSEL` where `OP` is not 6, and every operand bit in R44's column "words ignored", play no part
(30_encoding R49). -/
def Obligations.IgnoredFieldsDoNotMatter : Prop :=
  ∀ s s' : State, s.op ≠ 7#3 → s.layout = s'.layout → s.hostLE = s'.hostLE → s.op = s'.op →
    s.wselRead = s'.wselRead → s.bitsRead = s'.bitsRead →
    ∃ t t', step s = .next t ∧ step s' = .next t' ∧ t.rsp = t'.rsp

/-- `LAYOUT` is read by `ENCX` and `DECX` alone, and `HOST_LE` by these two under `X87In16` and `Quad` alone: the other
operations give the same response on every block, one without a known layout among them (10_state R16, R17;
43_passthrough R115). -/
def Obligations.StrapsReadOnlyByExtendedOperations : Prop :=
  ∀ (s : State) (L : BitVec 2) (h : BitVec 1),
    (s.op ≠ 0#3 → s.op ≠ 1#3 → s.op ≠ 7#3 →
      ∃ t t', step s = .next t ∧ step { s with layout := L, hostLE := h } = .next t' ∧ t.rsp = t'.rsp ∧ t.err = 0) ∧
    (s.op ≠ 7#3 → s.layout ≠ 1#2 → s.layout ≠ 2#2 →
      ∃ t t', step s = .next t ∧ step { s with hostLE := h } = .next t' ∧ t.rsp = t'.rsp)

/-! ### The properties of 44_properties -/

/-- Round trip on the machine: what one block encodes, another block of the same layout and any word order decodes to the same
object, up to what the layout does not carry (44_properties R164). -/
def Obligations.MachineRoundTrip : Prop :=
  ∀ (a b : State) (x0 x1 : Word), a.layout = b.layout →
    (Field.ext { w0 := x0, w1 := x1 }).accepted a.straps = true →
    ∃ t u, exec (.encx x0 x1) a = .next t ∧ t.err = 0 ∧
      exec (.decx t.y0 t.y1) b = .next u ∧ u.err = 0 ∧
      ({ w0 := u.y0, w1 := u.y1 } : StorageWords) = objectAsRead a.straps b.straps { w0 := x0, w1 := x1 }

/-- Round trip for EVERY classifier with the properties P1 to P4, so for any that the platform puts in the place of the default
(44_properties R164, 40_classifier R60; 93 U10). -/
def Obligations.RoundTripForEveryAdmissibleClassifier : Prop :=
  ∀ K : Classifier, AdmissibleClassifier K → ∀ (p q : Straps) (w : StorageWords) (l : Limbs),
    p.layout = q.layout → encodeExtended K p w = .ok l → decodeExtended K q l = .ok (objectAsRead p q w)

/-- On one block, two objects with the same limbs have the same meaningful bits: the encoder loses none (44_properties R170). -/
def Obligations.EncoderLosesNoMeaningfulBit : Prop :=
  ∀ (K : Classifier) (p : Straps) (w w' : StorageWords) (l : Limbs), AdmissibleClassifier K →
    encodeExtended K p w = .ok l → encodeExtended K p w' = .ok l → objectAsRead p p w = objectAsRead p p w'

/-- A double encoded on a `DoubleAlias` block and decoded on a `Quad` block keeps sign and class; a normal keeps its number, a
NaN its payload, and a zero or subnormal is `2^15360` times smaller (44_properties R165, part (a)). -/
def Obligations.DoubleToQuadFidelity : Prop :=
  ∀ (a c : State) (x0 x1 : Word), a.layout = 0#2 → c.layout = 2#2 →
    ∃ t u, exec (.encx x0 x1) a = .next t ∧ t.err = 0 ∧ exec (.decx t.y0 t.y1) c = .next u ∧ u.err = 0 ∧
      let n := (natSplit c.straps.hostLE { w0 := u.y0, w1 := u.y1 }).value
      quadSign n = doubleSign x0 ∧ classify128 n = classify64 x0 ∧
      (classify64 x0 = .normal → ∃ q : ℚ, doubleValue x0 = some q ∧ quadValue n = some q) ∧
      (classify64 x0 = .denormal → ∃ q : ℚ, quadValue n = some q ∧ doubleValue x0 = some (q * 2 ^ 15360)) ∧
      (classify64 x0 = .infinity → n = doubleSign x0 ++ 0x7FFF#15 ++ 0#112) ∧
      (classify64 x0 = .nan → n = doubleSign x0 ++ 0x7FFF#15 ++ doubleFrac x0 ++ 0#60)

/-- The reverse: a quad encoded on a `Quad` block and decoded on a `DoubleAlias` block keeps its sign, an infinity stays that
infinity, and a normal that a double can hold as a normal keeps class and number (44_properties R165, part (b)). -/
def Obligations.QuadToDoubleFidelity : Prop :=
  ∀ (c a : State) (x0 x1 : Word), c.layout = 2#2 → a.layout = 0#2 →
    ∃ t u, exec (.encx x0 x1) c = .next t ∧ t.err = 0 ∧ exec (.decx t.y0 t.y1) a = .next u ∧ u.err = 0 ∧
      let n := (natSplit c.straps.hostLE { w0 := x0, w1 := x1 }).value
      doubleSign u.y0 = quadSign n ∧
      (classify128 n = .infinity → u.y0 = quadSign n ++ 0x7FF#11 ++ 0#52) ∧
      (15361 ≤ (quadExp n).toNat → (quadExp n).toNat ≤ 17406 → n.extractLsb' 0 60 = 0#60 →
        classify64 u.y0 = .normal ∧ ∃ q : ℚ, quadValue n = some q ∧ doubleValue u.y0 = some q)

/-- The sign bit goes through the encoder and the decoder unchanged, in every layout, for every classifier
(44_properties R166). -/
def Obligations.SignIsKept : Prop :=
  ∀ (K : Classifier) (p : Straps),
    (∀ w l, encodeExtended K p w = .ok l → quadSign l.value = nativeSign p w) ∧
    (∀ l w, decodeExtended K p l = .ok w → nativeSign p w = quadSign l.value)

/-- The limbs do not depend on the word order of the host, nor does the value decoded from them (44_properties R167). -/
def Obligations.LimbsDoNotDependOnHostOrder : Prop :=
  ∀ (K : Classifier) (L : Layout) (h h' : Bool),
    (∀ n, L ≠ .doubleAlias → encodeExtended K { layout := L, hostLE := h } (natJoin h n) =
      encodeExtended K { layout := L, hostLE := h' } (natJoin h' n)) ∧
    (∀ l, L ≠ .doubleAlias → (decodeExtended K { layout := L, hostLE := h } l).map (natSplit h) =
      (decodeExtended K { layout := L, hostLE := h' } l).map (natSplit h')) ∧
    (∀ w, encodeExtended K { layout := .doubleAlias, hostLE := h } w =
      encodeExtended K { layout := .doubleAlias, hostLE := h' } w) ∧
    (∀ l, decodeExtended K { layout := .doubleAlias, hostLE := h } l =
      decodeExtended K { layout := .doubleAlias, hostLE := h' } l)

/-- The class through the encoder: kept under `DoubleAlias` and `Quad`; kept under `X87In16` but for an infinity, which reads
as a NaN, and got back by the decoder (44_properties R168). -/
def Obligations.ClassThroughTheEncoder : Prop :=
  (∀ d l, encDouble classify d = .ok l → classify128 l.value = classify64 d) ∧
  (∀ n l, encQuad classify n = .ok l → classify128 l.value = classify128 n.value) ∧
  (∀ n l, encX87 classify n = .ok l →
    classify128 l.value =
      (if classify80 (meaningful80 n) = .infinity then .nan else classify80 (meaningful80 n)) ∧
    classify80 (meaningful80 (decX87 l)) = classify80 (meaningful80 n))

/-! ### The archive boundary -/

/-- The requester writes the limbs HI and then LO, on every host, and on an error writes neither (20_memory R27, R28; 60_exceptions
R127). The requester of the statement is the model's (entry 18), and that nothing comes between its two writes is the model's
choice (entry 27): whether they are atomic as a pair is not given (20_memory R35). -/
def Obligations.PutExtendedWritesHighLimbFirst : Prop :=
  ∀ (s : State) (w : StorageWords) (a : Archive), ∃ t, served s (Instr.encx w.w0 w.w1).request = some t ∧
    match encodeExtended classify s.straps w with
    | .ok l => t.err = 0 ∧ putExtended s w a = some (t, a ++ [.u64 l.hi, .u64 l.lo])
    | .error k => t.err = errorCode k ∧ putExtended s w a = some (t, a)

/-- An object of any number of floats, doubles and extended values, written through the archive by one platform and read by
another of the same layout and any word order, arrives field by field (44_properties R164, R167; 43_passthrough R112,
R114). The requester of the statement is the model's (entry 18), and that nothing comes between the two writes, or the two reads,
of one extended value is the model's choice (entry 27; 20_memory R35). -/
def Obligations.ObjectSurvivesTheArchive : Prop :=
  ∀ (a b : State) (fields : List Field), a.layout = b.layout → (∀ f ∈ fields, f.accepted a.straps = true) →
    ∃ a' archive b', putObject a fields [] = some (a', archive) ∧
      getObject b (fields.map Field.kind) archive = some (b', [], fields.map (Field.asRead a.straps b.straps))

/-! ### The response ports between steps -/

/-- At every moment the response ports are a function of the request ports and the straps: presenting any request, on a block
in any state, shows at once the response that a step then gives; two blocks with the same straps show the same, whatever they
showed before; and a step, a new request and reset leave the ports so (10_state R21). For the reserved request the response is a
free value (entry 26). -/
def Obligations.ResponsePortsFollowTheRequestAtOnce : Prop :=
  (∀ (s : State) (r : Request), (s.present r).request = r ∧
    (s.present r).layout = s.layout ∧ (s.present r).hostLE = s.hostLE ∧
    (r.op ≠ 7#3 → served s r = some (s.present r)) ∧
    ∀ s' : State, s.layout = s'.layout → s.hostLE = s'.hostLE → s.present r = s'.present r) ∧
  (∀ (s : State) (r : Request), PortsFollow (s.present r)) ∧
  (∀ s t : State, step s = .next t → PortsFollow t) ∧
  PortsFollow State.reset
end

