-- ==== Sys2Proof/Laws/State.lean ====
section
/-! SUPPORT. One lemma per field per update of `State`, so that no later proof unfolds a record update. -/

namespace Sys2Proof.Machine

@[simp] theorem drive_layout (s : State) (r : Request) : (s.drive r).layout = s.layout := rfl
@[simp] theorem drive_hostLE (s : State) (r : Request) : (s.drive r).hostLE = s.hostLE := rfl
@[simp] theorem drive_op (s : State) (r : Request) : (s.drive r).op = r.op := rfl
@[simp] theorem drive_wsel (s : State) (r : Request) : (s.drive r).wsel = r.wsel := rfl
@[simp] theorem drive_x0 (s : State) (r : Request) : (s.drive r).x0 = r.x0 := rfl
@[simp] theorem drive_x1 (s : State) (r : Request) : (s.drive r).x1 = r.x1 := rfl
@[simp] theorem drive_y0 (s : State) (r : Request) : (s.drive r).y0 = s.y0 := rfl
@[simp] theorem drive_y1 (s : State) (r : Request) : (s.drive r).y1 = s.y1 := rfl
@[simp] theorem drive_cls (s : State) (r : Request) : (s.drive r).cls = s.cls := rfl
@[simp] theorem drive_err (s : State) (r : Request) : (s.drive r).err = s.err := rfl

@[simp] theorem answerWords_layout (s : State) (a b : Word) : (s.answerWords a b).layout = s.layout := rfl
@[simp] theorem answerWords_hostLE (s : State) (a b : Word) : (s.answerWords a b).hostLE = s.hostLE := rfl
@[simp] theorem answerWords_op (s : State) (a b : Word) : (s.answerWords a b).op = s.op := rfl
@[simp] theorem answerWords_wsel (s : State) (a b : Word) : (s.answerWords a b).wsel = s.wsel := rfl
@[simp] theorem answerWords_x0 (s : State) (a b : Word) : (s.answerWords a b).x0 = s.x0 := rfl
@[simp] theorem answerWords_x1 (s : State) (a b : Word) : (s.answerWords a b).x1 = s.x1 := rfl
@[simp] theorem answerWords_y0 (s : State) (a b : Word) : (s.answerWords a b).y0 = a := rfl
@[simp] theorem answerWords_y1 (s : State) (a b : Word) : (s.answerWords a b).y1 = b := rfl
@[simp] theorem answerWords_cls (s : State) (a b : Word) : (s.answerWords a b).cls = 0 := rfl
@[simp] theorem answerWords_err (s : State) (a b : Word) : (s.answerWords a b).err = 0 := rfl

@[simp] theorem answerClass_layout (s : State) (c : ValueClass) : (s.answerClass c).layout = s.layout := rfl
@[simp] theorem answerClass_hostLE (s : State) (c : ValueClass) : (s.answerClass c).hostLE = s.hostLE := rfl
@[simp] theorem answerClass_op (s : State) (c : ValueClass) : (s.answerClass c).op = s.op := rfl
@[simp] theorem answerClass_wsel (s : State) (c : ValueClass) : (s.answerClass c).wsel = s.wsel := rfl
@[simp] theorem answerClass_x0 (s : State) (c : ValueClass) : (s.answerClass c).x0 = s.x0 := rfl
@[simp] theorem answerClass_x1 (s : State) (c : ValueClass) : (s.answerClass c).x1 = s.x1 := rfl
@[simp] theorem answerClass_y0 (s : State) (c : ValueClass) : (s.answerClass c).y0 = 0 := rfl
@[simp] theorem answerClass_y1 (s : State) (c : ValueClass) : (s.answerClass c).y1 = 0 := rfl
@[simp] theorem answerClass_cls (s : State) (c : ValueClass) : (s.answerClass c).cls = classCode c := rfl
@[simp] theorem answerClass_err (s : State) (c : ValueClass) : (s.answerClass c).err = 0 := rfl

@[simp] theorem raise_layout (s : State) (k : ErrorKind) : (s.raise k).layout = s.layout := rfl
@[simp] theorem raise_hostLE (s : State) (k : ErrorKind) : (s.raise k).hostLE = s.hostLE := rfl
@[simp] theorem raise_op (s : State) (k : ErrorKind) : (s.raise k).op = s.op := rfl
@[simp] theorem raise_wsel (s : State) (k : ErrorKind) : (s.raise k).wsel = s.wsel := rfl
@[simp] theorem raise_x0 (s : State) (k : ErrorKind) : (s.raise k).x0 = s.x0 := rfl
@[simp] theorem raise_x1 (s : State) (k : ErrorKind) : (s.raise k).x1 = s.x1 := rfl
@[simp] theorem raise_y0 (s : State) (k : ErrorKind) : (s.raise k).y0 = 0 := rfl
@[simp] theorem raise_y1 (s : State) (k : ErrorKind) : (s.raise k).y1 = 0 := rfl
@[simp] theorem raise_cls (s : State) (k : ErrorKind) : (s.raise k).cls = 0 := rfl
@[simp] theorem raise_err (s : State) (k : ErrorKind) : (s.raise k).err = errorCode k := rfl

@[simp] theorem respond_layout (s : State) (r : Response) : (s.respond r).layout = s.layout := by
  match r with
  | .ok (.words _ _) => rfl
  | .ok (.verdict _) => rfl
  | .error _ => rfl
@[simp] theorem respond_hostLE (s : State) (r : Response) : (s.respond r).hostLE = s.hostLE := by
  match r with
  | .ok (.words _ _) => rfl
  | .ok (.verdict _) => rfl
  | .error _ => rfl
@[simp] theorem respond_op (s : State) (r : Response) : (s.respond r).op = s.op := by
  match r with
  | .ok (.words _ _) => rfl
  | .ok (.verdict _) => rfl
  | .error _ => rfl
@[simp] theorem respond_wsel (s : State) (r : Response) : (s.respond r).wsel = s.wsel := by
  match r with
  | .ok (.words _ _) => rfl
  | .ok (.verdict _) => rfl
  | .error _ => rfl
@[simp] theorem respond_x0 (s : State) (r : Response) : (s.respond r).x0 = s.x0 := by
  match r with
  | .ok (.words _ _) => rfl
  | .ok (.verdict _) => rfl
  | .error _ => rfl
@[simp] theorem respond_x1 (s : State) (r : Response) : (s.respond r).x1 = s.x1 := by
  match r with
  | .ok (.words _ _) => rfl
  | .ok (.verdict _) => rfl
  | .error _ => rfl

@[simp] theorem respond_words (s : State) (a b : Word) : s.respond (.ok (.words a b)) = s.answerWords a b := rfl
@[simp] theorem respond_verdict (s : State) (c : ValueClass) : s.respond (.ok (.verdict c)) = s.answerClass c := rfl
@[simp] theorem respond_error (s : State) (k : ErrorKind) : s.respond (.error k) = s.raise k := rfl

@[simp] theorem respond_request (s : State) (r : Response) : (s.respond r).request = s.request := by
  simp [State.request]
@[simp] theorem respond_straps (s : State) (r : Response) : (s.respond r).straps = s.straps := by
  simp [State.straps]
@[simp] theorem respond_req (s : State) (r : Response) : (s.respond r).req = s.req := by
  simp [State.req]
@[simp] theorem drive_request (s : State) (r : Request) : (s.drive r).request = r := rfl
@[simp] theorem drive_straps (s : State) (r : Request) : (s.drive r).straps = s.straps := rfl

@[simp] theorem showWord_layout (s : State) (b : BitVec 133) : (s.showWord b).layout = s.layout := rfl
@[simp] theorem showWord_hostLE (s : State) (b : BitVec 133) : (s.showWord b).hostLE = s.hostLE := rfl
@[simp] theorem showWord_op (s : State) (b : BitVec 133) : (s.showWord b).op = s.op := rfl
@[simp] theorem showWord_wsel (s : State) (b : BitVec 133) : (s.showWord b).wsel = s.wsel := rfl
@[simp] theorem showWord_x0 (s : State) (b : BitVec 133) : (s.showWord b).x0 = s.x0 := rfl
@[simp] theorem showWord_x1 (s : State) (b : BitVec 133) : (s.showWord b).x1 = s.x1 := rfl
@[simp] theorem showWord_y0 (s : State) (b : BitVec 133) : (s.showWord b).y0 = b.extractLsb' 0 64 := rfl
@[simp] theorem showWord_y1 (s : State) (b : BitVec 133) : (s.showWord b).y1 = b.extractLsb' 64 64 := rfl
@[simp] theorem showWord_cls (s : State) (b : BitVec 133) : (s.showWord b).cls = b.extractLsb' 128 3 := rfl
@[simp] theorem showWord_err (s : State) (b : BitVec 133) : (s.showWord b).err = b.extractLsb' 131 2 := rfl
@[simp] theorem showWord_request (s : State) (b : BitVec 133) : (s.showWord b).request = s.request := rfl
@[simp] theorem showWord_straps (s : State) (b : BitVec 133) : (s.showWord b).straps = s.straps := rfl
@[simp] theorem showWord_req (s : State) (b : BitVec 133) : (s.showWord b).req = s.req := rfl

end Sys2Proof.Machine
end

