-- ==== Sys2Proof/Laws/Ops.lean ====
section
/-! SUPPORT. One lemma per shared operation that says once everything it can do, to be cited instead of unfolding: driving
a response, driving and presenting a request, the word order, the dispatch, one step, one served request. -/

namespace Sys2Proof.Machine

/-- Driving a response overwrites every response port: what they held before does not matter. -/
@[simp] theorem respond_respond (s : State) (q r : Response) : (s.respond q).respond r = s.respond r := by
  match q, r with
  | .ok (.words _ _), .ok (.words _ _) => rfl
  | .ok (.words _ _), .ok (.verdict _) => rfl
  | .ok (.words _ _), .error _ => rfl
  | .ok (.verdict _), .ok (.words _ _) => rfl
  | .ok (.verdict _), .ok (.verdict _) => rfl
  | .ok (.verdict _), .error _ => rfl
  | .error _, .ok (.words _ _) => rfl
  | .error _, .ok (.verdict _) => rfl
  | .error _, .error _ => rfl

/-- Driving a request overwrites every request port. -/
@[simp] theorem drive_drive (s : State) (q r : Request) : (s.drive q).drive r = s.drive r := rfl

/-- Driving a request and responding touch different ports. -/
theorem respond_drive (s : State) (q : Response) (r : Request) :
    (s.respond q).drive r = (s.drive r).respond q := by
  match q with
  | .ok (.words _ _) => rfl
  | .ok (.verdict _) => rfl
  | .error _ => rfl

@[simp] theorem natSplit_natJoin (h : Bool) (n : Halves) : natSplit h (natJoin h n) = n := by
  cases h <;> rfl

@[simp] theorem natJoin_natSplit (h : Bool) (w : StorageWords) : natJoin h (natSplit h w) = w := by
  cases h <;> rfl

@[simp] theorem layoutOfCode_layoutCode (l : Layout) : layoutOfCode (layoutCode l) = l := by
  cases l <;> rfl

/-- The response of an operation under the straps, as one function (the meanings, without the state). -/
def responseOf (p : Straps) : Instr → Response
  | .encx x0 x1 => encxResponse classify p x0 x1
  | .decx x0 x1 => decxResponse classify p x0 x1
  | .encf32 x0 _ => pass32 x0
  | .decf32 x0 _ => pass32 x0
  | .encf64 x0 _ => pass64 x0
  | .decf64 x0 _ => pass64 x0
  | .classifyW32 x0 x1 => .ok (.verdict (classify (operandV x0 x1) 32))
  | .classifyW64 x0 x1 => .ok (.verdict (classify (operandV x0 x1) 64))
  | .classifyW80 x0 x1 => .ok (.verdict (classify (operandV x0 x1) 80))
  | .classifyW128 x0 x1 => .ok (.verdict (classify (operandV x0 x1) 128))

/-- All that an operation does: it drives its response. -/
theorem exec_eq_respond (i : Instr) (s : State) : exec i s = .next (s.respond (responseOf s.straps i)) := by
  cases i <;> rfl

/-- All that a step does: it drives the response of the operation presented, or refuses the reserved code. -/
theorem step_eq (s : State) :
    step s = match decode s.req with
      | .ok i => .next (s.respond (responseOf s.straps i))
      | .error _ => .refused .reservedOperation := by
  unfold step
  cases decode s.req with
  | ok i => exact exec_eq_respond i s
  | error e => cases e; rfl

/-- A step that answers a next state ran an operation and drove its response. -/
theorem step_next {s t : State} (h : step s = .next t) :
    ∃ i, decode s.req = .ok i ∧ t = s.respond (responseOf s.straps i) := by
  rw [step_eq] at h
  cases hd : decode s.req with
  | ok i =>
    rw [hd] at h
    exact ⟨i, rfl, (Host.Outcome.next.inj h).symm⟩
  | error e =>
    rw [hd] at h
    cases h

/-- Driving a request shows it to the decoder. -/
@[simp] theorem drive_req (s : State) (r : Request) : (s.drive r).req = r.toBits := rfl

/-- All that settling does where the request selects an operation: it drives the response. -/
theorem settle_of_decode {s : State} {i : Instr} (h : decode s.req = .ok i) :
    s.settle = s.respond (responseOf s.straps i) := by
  unfold State.settle
  rw [h]
  simp only [exec_eq_respond]

/-- All that settling does for the reserved request: it shows the free value. -/
theorem settle_of_reject {s : State} (h : decode s.req = .error .reservedOperation) :
    s.settle = s.showWord (Config.reservedResponse s.layout s.hostLE s.req) := by
  unfold State.settle
  rw [h]

/-- Settling leaves the inputs, and so what the decoder sees. -/
theorem settle_inputs (s : State) :
    s.settle.straps = s.straps ∧ s.settle.request = s.request ∧ s.settle.req = s.req := by
  cases h : decode s.req with
  | ok i => rw [settle_of_decode h]; simp
  | error e => cases e; rw [settle_of_reject h]; simp

/-- A step does not see what the response ports showed, so settling first changes nothing. -/
theorem step_settle (s : State) : step s.settle = step s := by
  obtain ⟨hp, _, hr⟩ := settle_inputs s
  rw [step_eq, step_eq, hr, hp]
  cases h : decode s.req with
  | ok i => rw [settle_of_decode h]; simp
  | error e => rfl

/-- Where a request selects an operation, a step shows what the ports already show once they have settled. -/
theorem step_eq_settle {s : State} {i : Instr} (h : decode s.req = .ok i) : step s = .next s.settle := by
  rw [step_eq, settle_of_decode h, h]

/-- A request is served exactly when the step on its request ports answers a next state. -/
theorem served_eq_some_iff {s t : State} {r : Request} : served s r = some t ↔ step (s.drive r) = .next t := by
  unfold served serve State.present
  rw [step_settle]
  cases step (s.drive r) <;> simp

/-- The state after a served request: the ports that show the request and its response. -/
theorem served_eq_some {s t : State} {r : Request} (h : served s r = some t) :
    ∃ i, decode r.toBits = .ok i ∧ t = (s.drive r).respond (responseOf s.straps i) := by
  obtain ⟨i, hd, ht⟩ := step_next (served_eq_some_iff.mp h)
  rw [drive_req] at hd
  rw [drive_straps] at ht
  exact ⟨i, hd, ht⟩

end Sys2Proof.Machine
end

