-- ==== Sys2Proof/Laws/PerInstr.lean ====
section
/-! SUPPORT. Statements about every operation as syntax, one lemma per constructor. -/

namespace Sys2Proof.Laws

/-- The command field of an operation's request word is selected by the operation's own row of 30_encoding R42. -/
def EncodedCmd.Statement (i : Instr) : Prop := i.row.selects i.request.cmd = true

theorem EncodedCmd.encx (x0 x1 : Word) : EncodedCmd.Statement (.encx x0 x1) := by
  simp [EncodedCmd.Statement, Instr.row, Instr.request, Request.cmd, OpcodeRow.selects]
theorem EncodedCmd.decx (x0 x1 : Word) : EncodedCmd.Statement (.decx x0 x1) := by
  simp [EncodedCmd.Statement, Instr.row, Instr.request, Request.cmd, OpcodeRow.selects]
theorem EncodedCmd.encf32 (x0 x1 : Word) : EncodedCmd.Statement (.encf32 x0 x1) := by
  simp [EncodedCmd.Statement, Instr.row, Instr.request, Request.cmd, OpcodeRow.selects]
theorem EncodedCmd.decf32 (x0 x1 : Word) : EncodedCmd.Statement (.decf32 x0 x1) := by
  simp [EncodedCmd.Statement, Instr.row, Instr.request, Request.cmd, OpcodeRow.selects]
theorem EncodedCmd.encf64 (x0 x1 : Word) : EncodedCmd.Statement (.encf64 x0 x1) := by
  simp [EncodedCmd.Statement, Instr.row, Instr.request, Request.cmd, OpcodeRow.selects]
theorem EncodedCmd.decf64 (x0 x1 : Word) : EncodedCmd.Statement (.decf64 x0 x1) := by
  simp [EncodedCmd.Statement, Instr.row, Instr.request, Request.cmd, OpcodeRow.selects]
theorem EncodedCmd.classifyW32 (x0 x1 : Word) : EncodedCmd.Statement (.classifyW32 x0 x1) := by
  simp [EncodedCmd.Statement, Instr.row, Instr.request, Request.cmd, OpcodeRow.selects]
theorem EncodedCmd.classifyW64 (x0 x1 : Word) : EncodedCmd.Statement (.classifyW64 x0 x1) := by
  simp [EncodedCmd.Statement, Instr.row, Instr.request, Request.cmd, OpcodeRow.selects]
theorem EncodedCmd.classifyW80 (x0 x1 : Word) : EncodedCmd.Statement (.classifyW80 x0 x1) := by
  simp [EncodedCmd.Statement, Instr.row, Instr.request, Request.cmd, OpcodeRow.selects]
theorem EncodedCmd.classifyW128 (x0 x1 : Word) : EncodedCmd.Statement (.classifyW128 x0 x1) := by
  simp [EncodedCmd.Statement, Instr.row, Instr.request, Request.cmd, OpcodeRow.selects]

/-- An operation's request carries its operand words and is well-formed (30_encoding R40, R50). -/
def RequestFields.Statement (i : Instr) : Prop :=
  (i.request.x0, i.request.x1) = i.operands ∧ i.request.wellFormed = true

theorem RequestFields.encx (x0 x1 : Word) : RequestFields.Statement (.encx x0 x1) := ⟨rfl, rfl⟩
theorem RequestFields.decx (x0 x1 : Word) : RequestFields.Statement (.decx x0 x1) := ⟨rfl, rfl⟩
theorem RequestFields.encf32 (x0 x1 : Word) : RequestFields.Statement (.encf32 x0 x1) := ⟨rfl, rfl⟩
theorem RequestFields.decf32 (x0 x1 : Word) : RequestFields.Statement (.decf32 x0 x1) := ⟨rfl, rfl⟩
theorem RequestFields.encf64 (x0 x1 : Word) : RequestFields.Statement (.encf64 x0 x1) := ⟨rfl, rfl⟩
theorem RequestFields.decf64 (x0 x1 : Word) : RequestFields.Statement (.decf64 x0 x1) := ⟨rfl, rfl⟩
theorem RequestFields.classifyW32 (x0 x1 : Word) : RequestFields.Statement (.classifyW32 x0 x1) := ⟨rfl, rfl⟩
theorem RequestFields.classifyW64 (x0 x1 : Word) : RequestFields.Statement (.classifyW64 x0 x1) := ⟨rfl, rfl⟩
theorem RequestFields.classifyW80 (x0 x1 : Word) : RequestFields.Statement (.classifyW80 x0 x1) := ⟨rfl, rfl⟩
theorem RequestFields.classifyW128 (x0 x1 : Word) : RequestFields.Statement (.classifyW128 x0 x1) := ⟨rfl, rfl⟩

end Sys2Proof.Laws
end

