-- ==== Sys2Proof/Tests/Slice0.lean ====
section
/-! SUPPORT. The model's own tests: the smoke test of well-formedness, the request words of spec/95 section 2.8, at most two
small results per operation from spec/95 Parts 1 and 2, the opcode table's interface, and a witness for the hypotheses of
every statement that has some. Expected values come from spec/95, or from the rule that a comment names. -/

namespace Sys2Proof.Tests

open Sys2Proof.Machine

/-- The ports after reset with the straps driven. -/
def block (layout : BitVec 2) (hostLE : BitVec 1) : State := State.resetOn layout hostLE

/-- The next state, if there is one. -/
def nextOf (o : Host.Outcome State Fault Refusal) : Option State :=
  match o with
  | .next t => some t
  | .fault _ => none
  | .refused _ => none

/-- The refusal, if there is one. -/
def refusalOf (o : Host.Outcome State Fault Refusal) : Option Refusal :=
  match o with
  | .next _ => none
  | .fault _ => none
  | .refused r => some r

/-- The response ports `(Y0, Y1, CLS, ERR)` after one step on an operation's request. -/
def answer (s : State) (i : Instr) : Option (Word × Word × BitVec 3 × BitVec 2) :=
  (nextOf (serve s i.request)).map fun t => (t.y0, t.y1, t.cls, t.err)

/-- What the decoder makes of a request word. -/
def decoded (b : BitVec 133) : Option Instr :=
  match decode b with
  | .ok i => some i
  | .error _ => none

/-! ### Well-formedness: `OP = 7` with each `WSEL` (30_encoding R50; 95 section 2.8, `CMD` 0x07, 0x0F, 0x17, 0x1F) -/

theorem test_op7_ill_formed :
    ∀ w : BitVec 2, ({ op := 7, wsel := w, x0 := 0, x1 := 0 } : Request).wellFormed = false := by decide
theorem test_op7_rejected :
    decoded 0x0700000000000000000000000000000000#133 = none ∧ decoded 0x0F00000000000000000000000000000000#133 = none ∧
    decoded 0x1700000000000000000000000000000000#133 = none ∧
    decoded 0x1F00000000000000000000000000000000#133 = none := by decide
theorem test_op7_refused_by_step :
    refusalOf (step { block 1 1 with op := 7, wsel := 2, x0 := 5, x1 := 6 }) = some .reservedOperation := by decide
theorem test_op6_well_formed :
    ∀ w : BitVec 2, ({ op := 6, wsel := w, x0 := 0, x1 := 0 } : Request).wellFormed = true := by decide

/-! ### Decoding: the words of spec/95 section 2.8, one per operation -/

theorem test_decode_encx :
    decoded 0x00ABCDEF0123453FFF8000000000000000#133 = some (.encx 0x8000000000000000 0xABCDEF0123453FFF) := by decide
theorem test_decode_decx : decoded 0x0100000000000000003FFF800000000000#133 = some (.decx 0x3FFF800000000000 0) := by decide
theorem test_decode_encf32 : decoded 0x0200000000000000000000000042F6E979#133 = some (.encf32 0x42F6E979 0) := by decide
theorem test_decode_decf32 : decoded 0x0300000000000000000000000042F6E979#133 = some (.decf32 0x42F6E979 0) := by decide
theorem test_decode_encf64 :
    decoded 0x04000000000000000040B62E0328B6D86F#133 = some (.encf64 0x40B62E0328B6D86F 0) := by decide
theorem test_decode_decf64 :
    decoded 0x05000000000000000040B62E0328B6D86F#133 = some (.decf64 0x40B62E0328B6D86F 0) := by decide
theorem test_decode_classifyW32 :
    decoded 0x060000000000000000000000003F800000#133 = some (.classifyW32 0x3F800000 0) := by decide
theorem test_decode_classifyW64 :
    decoded 0x0E00000000000000003FF0000000000000#133 = some (.classifyW64 0x3FF0000000000000 0) := by decide
theorem test_decode_classifyW80 :
    decoded 0x16ABCDEF0123453FFF8000000000000000#133 = some (.classifyW80 0x8000000000000000 0xABCDEF0123453FFF) := by
  decide
theorem test_decode_classifyW128 :
    decoded 0x1EC0004000000000000000000000000000#133 = some (.classifyW128 0 0xC000400000000000) := by decide
/-- `WSEL = 3` is ignored where `OP` is not 6. -/
theorem test_decode_ignores_wsel :
    decoded 0x18ABCDEF0123453FFF8000000000000000#133 = some (.encx 0x8000000000000000 0xABCDEF0123453FFF) := by decide
/-- The encoder writes the words of spec/95 section 2.8 (P2, P3). -/
theorem test_encode :
    encode (.encx 0xC004000000000000 0) = 0x000000000000000000C004000000000000#133 ∧
    encode (.decx 0x4000921FB54442D1 0x8000000000000000) = 0x0180000000000000004000921FB54442D1#133 ∧
    encode (.classifyW128 0 0xC000400000000000) = 0x1EC0004000000000000000000000000000#133 := by decide

/-! ### The opcode table's interface (entry 8) -/

theorem test_table_words :
    [0x00, 0x01, 0x02, 0x03, 0x04, 0x05, 0x06, 0x0E, 0x16, 0x1E].map (decodeTableWord 8) =
      [some (.encx 0 0), some (.decx 0 0), some (.encf32 0 0), some (.decf32 0 0), some (.encf64 0 0), some (.decf64 0 0),
       some (.classifyW32 0 0), some (.classifyW64 0 0), some (.classifyW80 0 0), some (.classifyW128 0 0)] := by decide
theorem test_table_word_reserved : decodeTableWord 8 0x07 = none ∧ decodeTableWord 8 0x1F = none := by decide
theorem test_withFetchWord :
    nextOf (step (State.reset.withFetchWord 8 0x1E)) = nextOf (exec (.classifyW128 0 0) (State.reset.withFetchWord 8 0x1E)) ∧
    (State.reset.withFetchWord 8 0x1E).request = (Instr.classifyW128 0 0).request := by decide

/-! ### Results, from spec/95 -/

/-- 95 section 2.2, row "-NaN with payload"; `X1` is ignored under `DoubleAlias`. -/
theorem test_encx_double :
    answer (block 0 1) (.encx 0xFFF123456789ABCD 0xDEADBEEFDEADBEEF) =
      some (0xFFFF123456789ABC, 0xD000000000000000, 0, 0) := by decide
/-- 95 section 2.4, row "-pi", big-endian host with padding, and row "unnormal"; section 2.6, the unnormal under `NONE`. -/
theorem test_encx_x87 :
    answer (block 1 0) (.encx 0xABCDEF012345C000 0xC90FDAA22168C235) =
      some (0xC000C90FDAA22168, 0xC235000000000000, 0, 0) ∧
    answer (block 1 1) (.encx 0x4000000000000000 0x3FFF) = some (0, 0, 0, 1) ∧
    answer (block 3 1) (.encx 0x4000000000000000 0x3FFF) = some (0, 0, 0, 2) := by decide
/-- 95 section 2.3, rows `E = 1` and "low 60 bits set". -/
theorem test_decx_double :
    answer (block 0 0) (.decx 0x0001000000000000 0) = some (0x4010000000000000, 0, 0, 0) ∧
    answer (block 0 0) (.decx 0x3FFF000000000000 0x0FFFFFFFFFFFFFFF) = some (0x3FF0000000000000, 0, 0, 0) := by decide
/-- 95 section 2.4, "binary128 -pi" under `X87In16`, and P2 on platform C (`Quad`, little-endian). -/
theorem test_decx_x87_quad :
    answer (block 1 1) (.decx 0xC000921FB54442D1 0x8469898CC51701B8) =
      some (0x921FB54442D18469, 0x000000000000C000, 0, 0) ∧
    answer (block 2 1) (.decx 0xC000400000000000 0) = some (0, 0xC000400000000000, 0, 0) := by decide
/-- 95 section 2.7. -/
theorem test_encf32 :
    answer (block 3 1) (.encf32 0xFFFFFFFF42F6E979 0x5555) = some (0x42F6E979, 0, 0, 0) := by decide
/-- 95 section 2.7: a signalling NaN is unchanged. -/
theorem test_decf32 : answer (block 1 0) (.decf32 0x7FA00000 0) = some (0x7FA00000, 0, 0, 0) := by decide
/-- 95 section 2.7. -/
theorem test_encf64 :
    answer (block 0 1) (.encf64 0x7FF0000000000001 0xFFFFFFFFFFFFFFFF) = some (0x7FF0000000000001, 0, 0, 0) := by decide
/-- 95 section 2.7. -/
theorem test_decf64 : answer (block 2 0) (.decf64 0x8000000000000000 0) = some (0x8000000000000000, 0, 0, 0) := by decide
/-- 95 section 2.1: `X0[63:32]` is ignored. -/
theorem test_classifyW32 :
    answer (block 0 0) (.classifyW32 0xFFFFFFFF3F800000 0) = some (0, 0, 0, 0) ∧
    answer (block 0 0) (.classifyW32 0x7F800001 0) = some (0, 0, 3, 0) := by decide
/-- 95 section 2.1. -/
theorem test_classifyW64 :
    answer (block 3 0) (.classifyW64 0xFFF0000000000000 0) = some (0, 0, 2, 0) ∧
    answer (block 3 0) (.classifyW64 0x000FFFFFFFFFFFFF 0) = some (0, 0, 1, 0) := by decide
/-- 95 section 2.1: the padding is ignored; `Unrecognized` is an answer and no error. -/
theorem test_classifyW80 :
    answer (block 0 1) (.classifyW80 0x8000000000000000 0xABCDEF0123453FFF) = some (0, 0, 0, 0) ∧
    answer (block 0 1) (.classifyW80 0x7FFFFFFFFFFFFFFF 0x3FFF) = some (0, 0, 4, 0) := by decide
/-- 95 section 2.1: `X1` is HI; a payload in LO alone makes a NaN. -/
theorem test_classifyW128 :
    answer (block 2 1) (.classifyW128 1 0x7FFF000000000000) = some (0, 0, 3, 0) ∧
    answer (block 2 1) (.classifyW128 0 0xFFFF000000000000) = some (0, 0, 2, 0) := by decide
/-- 95 P4: what the archive holds after an object of a double and an extended field on a platform without a known layout. -/
theorem test_putExtended_writes_nothing_on_error :
    ((putF64 (block 3 1) 0x40B62E0328B6D86F []).bind fun p =>
      (putExtended p.1 { w0 := 0x1111111111111111, w1 := 0x2222222222222222 } p.2).map fun q => (q.1.err, q.2)) =
      some (2, [.u64 0x40B62E0328B6D86F]) := by decide

/-- 10_state R21: the response is on the ports as soon as the request is, with no step (the unnormal of 95 section 2.4, and then
the zero of section 2.1). -/
theorem test_present_shows_the_response_at_once :
    (((block 1 1).present (Instr.encx 0x4000000000000000 0x3FFF).request).err,
     (((block 1 1).present (Instr.encx 0x4000000000000000 0x3FFF).request).present (Instr.classifyW32 0 0).request).cls) =
      (1, 1) := by decide

/-! ### Witnesses: each statement's hypotheses are met, every clause at boundary values -/

theorem witness_EncodeOfDecodedClearsIgnoredWsel :
    decoded 0x18ABCDEF0123453FFF8000000000000000#133 = some (.encx 0x8000000000000000 0xABCDEF0123453FFF) ∧
    decoded 0x1EC0004000000000000000000000000000#133 = some (.classifyW128 0 0xC000400000000000) := by decide
/-- Both sides of each equivalence: a word that selects a row, a word that selects none. -/
theorem witness_OpcodeMapSelectsTheOperation :
    decoded 0x1D00000000000000070000000000000005#133 = some (.decf64 5 7) ∧
    (0x1D00000000000000070000000000000005#133).extractLsb' 128 5 &&& (Instr.decf64 5 7).row.mask =
      (Instr.decf64 5 7).row.pattern ∧
    decoded 0x1700000000000000070000000000000005#133 = none ∧
    (0x1700000000000000070000000000000005#133).extractLsb' 128 3 = 7#3 := by decide
/-- A state whose request ports decode to an operation, and one whose ports do not. -/
theorem witness_StepRunsTheDecodedOperation_OnlyTheReservedCodeIsRefused :
    let s : State := { block 2 0 with op := 6, wsel := 2, x0 := 5, x1 := 7 }
    let s' : State := { block 2 0 with op := 7, wsel := 2, x0 := 5, x1 := 7 }
    decoded (s.wsel ++ s.op ++ s.x1 ++ s.x0) = some (.classifyW80 5 7) ∧ s.op ≠ 7#3 ∧ s'.op = 7#3 := by decide
/-- R61 at the boundaries of its clauses: exponent field 0, 1, 254, 255 with fraction 0 and not 0. -/
theorem witness_ClassifyW32Result :
    [0, 0x007FFFFF, 0x00800000, 0x7F7FFFFF, 0x7F800000, 0x7F800001].map (fun v : Wide => classify v 32) =
      [.denormal, .denormal, .normal, .normal, .infinity, .nan] := by decide
/-- R62 at the boundaries of its clauses: exponent field 0, 1, 2046, 2047 with fraction 0 and not 0. -/
theorem witness_ClassifyW64Result :
    [0x8000000000000000, 0x000FFFFFFFFFFFFF, 0x0010000000000000, 0x7FEFFFFFFFFFFFFF, 0x7FF0000000000000,
      0x7FF0000000000001].map (fun v : Wide => classify v 64) =
      [.denormal, .denormal, .normal, .normal, .infinity, .nan] := by decide
/-- R63 at the boundaries of its clauses: exponent field 0, 1, 32766, 32767 with the integer bit 0 and 1. -/
theorem witness_ClassifyW80Result :
    [0x00008000000000000000, 0x00017FFFFFFFFFFFFFFF, 0x00018000000000000000, 0x7FFEFFFFFFFFFFFFFFFF,
      0x7FFF0000000000000000, 0x7FFF8000000000000000, 0x7FFF8000000000000001].map (fun v : Wide => classify v 80) =
      [.denormal, .unrecognized, .normal, .normal, .unrecognized, .infinity, .nan] := by decide
/-- R64 at the boundaries of its clauses: the fraction test covers both words. -/
theorem witness_ClassifyW128Result :
    [0x0000FFFFFFFFFFFFFFFFFFFFFFFFFFFF, 0x00010000000000000000000000000000, 0x7FFEFFFFFFFFFFFFFFFFFFFFFFFFFFFF,
      0x7FFF0000000000000000000000000000, 0x7FFF0000000000000000000000000001,
      0x7FFF0000000000010000000000000000].map (fun v : Wide => classify v 128) =
      [.denormal, .normal, .normal, .infinity, .nan, .nan] := by decide
/-- A zero of each sign at each width. -/
theorem witness_ZeroIsDenormalAtEveryWidth :
    (0x80000000#128).extractLsb' 0 31 = 0#31 ∧ (0x8000000000000000#128).extractLsb' 0 63 = 0#63 ∧
    (0x80000000000000000000#128).extractLsb' 0 79 = 0#79 ∧
    (0x80000000000000000000000000000000#128).extractLsb' 0 127 = 0#127 := by decide
theorem witness_UnrecognizedOnlyAtWidth80 :
    (0x00010000000000000000#128).extractLsb' 64 15 ≠ 0#15 ∧ (0x00010000000000000000#128).extractLsb' 63 1 = 0#1 ∧
    (0x7FFF7FFFFFFFFFFFFFFF#128).extractLsb' 64 15 ≠ 0#15 ∧
    (0x7FFF7FFFFFFFFFFFFFFF#128).extractLsb' 63 1 = 0#1 := by decide
theorem witness_DefaultClassifierIsAdmissible : (16 : Nat) ≠ 32 ∧ 16 ≠ 64 ∧ 16 ≠ 80 ∧ 16 ≠ 128 := by decide
/-- The four layouts, and the exponent boundaries of the `DoubleAlias` cells (0, 1, 2046, 2047). -/
theorem witness_layouts_EncxDoubleAliasResult :
    (block 0 1).layout = 0#2 ∧ (block 1 1).layout = 1#2 ∧ (block 2 0).layout = 2#2 ∧ (block 3 0).layout = 3#2 ∧
    [0x000FFFFFFFFFFFFF, 0x0010000000000000, 0x7FEFFFFFFFFFFFFF, 0x7FF0000000000000].map
      (fun d : Word => (answer (block 0 1) (.encx d 0)).map Prod.fst) =
      [some 0x0000FFFFFFFFFFFF, some 0x3C01000000000000, some 0x43FEFFFFFFFFFFFF, some 0x7FFF000000000000] := by decide
/-- Both clauses of R77, on both kinds of host: the integer bit 0 and 1 beside the exponent fields 0, 1 and 32767. -/
theorem witness_EncxX87Result :
    [((0x0000, 0x7FFFFFFFFFFFFFFF) : Word × Word), (0x0001, 0x7FFFFFFFFFFFFFFF), (0x0001, 0x8000000000000000),
      (0x7FFF, 0), (0x7FFF, 0x8000000000000000)].map
      (fun v => ((answer (block 1 1) (.encx v.2 v.1)).map fun a => a.2.2.2,
        (answer (block 1 0) (.encx v.1 v.2)).map fun a => a.2.2.2)) =
      [(some 0, some 0), (some 1, some 1), (some 0, some 0), (some 1, some 1), (some 0, some 0)] := by decide
/-- Quad and NONE: hypotheses on the straps alone. -/
theorem witness_EncxQuadResult_DecxQuadResult_DecxX87Result_ExtendedOperationsFailWithoutLayout :
    answer (block 2 1) (.encx 1 0x3FFF000000000000) = some (0x3FFF000000000000, 1, 0, 0) ∧
    answer (block 2 0) (.decx 0x3FFF000000000000 1) = some (0x3FFF000000000000, 1, 0, 0) ∧
    answer (block 1 0) (.decx 0x3FFF800000000000 0) = some (0x3FFF, 0x8000000000000000, 0, 0) ∧
    answer (block 3 0) (.decx 0 0) = some (0, 0, 0, 2) := by decide

/-- A classifier that always says `c`. -/
def constant (c : ValueClass) : Classifier := fun _ _ => c

/-- A classifier of every answer, so that every cell of R82 and R101 is met. -/
theorem witness_EncodeTable_DecodeTableForEveryClassifier :
    (constant .unrecognized 0 64 = .unrecognized ∧ constant .unrecognized 0 128 = .unrecognized) ∧
    (constant .normal 0 64 = .normal ∧ constant .denormal 0 64 = .denormal) ∧
    (constant .infinity 0 64 = .infinity ∧ constant .nan 0 128 = .nan) ∧ Layout.x87In16 ≠ .none := by decide
/-- The least and the greatest exponent field of a normal double. -/
theorem witness_NormalDoubleKeepsItsNumber :
    classify64 0x8010000000000000#64 = .normal ∧ classify64 0x7FEFFFFFFFFFFFFF#64 = .normal := by decide
/-- Both zeros, the least and the greatest subnormal. -/
theorem witness_DenormalDoubleIsNotRenormalized :
    doubleExp 0 = 0#11 ∧ doubleExp 0x8000000000000000 = 0#11 ∧ doubleExp 1 = 0#11 ∧ doubleExp 0x000FFFFFFFFFFFFF = 0#11 ∧
    doubleFrac 0x8000000000000000 = 0#52 := by decide
/-- 95 section 2.3 at the boundaries of the clauses of R93 to R96: `E` = 0, 1, 15360, 15361, 17406, 17407, 32766, 32767. -/
theorem witness_DecxDoubleAliasResult :
    [0x0000800000000000, 0x0001000000000000, 0x3C00000000000000, 0x3C01000000000000, 0x43FE000000000000,
      0x43FF000000000000, 0x7FFE000000000000, 0xFFFF000000000000].map
      (fun h : Word => (answer (block 0 1) (.decx h 0)).map Prod.fst) =
      [some 0x0008000000000000, some 0x4010000000000000, some 0, some 0x0010000000000000, some 0x7FE0000000000000,
       some 0x7FF0000000000000, some 0x3FE0000000000000, some 0xFFF0000000000000] := by decide
theorem witness_DecxDropsLowFractionBits :
    (0x1000000000000000#64).extractLsb' 60 4 = (0x1FFFFFFFFFFFFFFF#64).extractLsb' 60 4 ∧
    classify128 (0xFFFF000000000000#64 ++ 1#64) = .nan ∧ (0xFFFF000000000000#64).extractLsb' 0 48 = 0#48 ∧
    (1#64).extractLsb' 60 4 = 0#4 := by decide
theorem witness_LayoutErrorComesFirst : Layout.doubleAlias ≠ .none ∧ Layout.x87In16 ≠ .none ∧ Layout.quad ≠ .none := by
  decide
/-- Each error code is met: 1 under `X87In16` by `ENCX`, 2 under `NONE` by both operations. -/
theorem witness_ErrorsOccurExactlyWhere_ErrorResponseCarriesNoData :
    (nextOf (exec (.encx 0 1) (block 1 1))).map State.err = some 1 ∧
    classify80 (meaningful80 (natSplit true { w0 := 0, w1 := 1 })) = .unrecognized ∧
    (nextOf (exec (.encx 0 1) (block 3 1))).map State.err = some 2 ∧
    (nextOf (exec (.decx 0 1) (block 3 0))).map State.err = some 2 := by decide
theorem witness_FailedRequestLeavesNoTrace :
    served (block 1 1) (Instr.encx 0 1).request =
      some { block 1 1 with op := 0, wsel := 0, x0 := 0, x1 := 1, y0 := 0, y1 := 0, cls := 0, err := 1 } := by decide
/-- Two blocks that differ in the response ports alone, one for each clause (served, refused). -/
theorem witness_SameRequestSameResponse :
    let s : State := { block 1 1 with op := 1, x0 := 3, y0 := 9, err := 1 }
    let s' : State := { block 1 1 with op := 1, x0 := 3, y1 := 8, cls := 4 }
    let r : State := { block 1 1 with op := 7, y0 := 9 }
    s.straps = s'.straps ∧ s.req = s'.req ∧ s ≠ s' ∧ nextOf (step s) ≠ none ∧ refusalOf (step r) = some .reservedOperation := by
  decide
theorem witness_ResponsesDoNotDependOnOrder :
    ∀ r ∈ [(Instr.encx 0 1).request, (Instr.classifyW80 0 1).request, { op := 5, wsel := 3, x0 := 1, x1 := 2 }],
      r.op ≠ 7#3 := by decide
theorem witness_OperationsWriteOnlyResponsePorts_EveryStepLeavesLegalSettledPorts :
    nextOf (step { block 3 0 with op := 6, wsel := 1, x0 := 0x7FF0000000000001, y0 := 1, err := 3, cls := 7 }) =
      some { block 3 0 with op := 6, wsel := 1, x0 := 0x7FF0000000000001, y0 := 0, cls := 3, err := 0 } ∧
    nextOf (exec (.decx 0 1) { block 3 0 with y0 := 1 }) = some { block 3 0 with y0 := 0, err := 2 } := by decide
/-- A request that is served, two blocks that show different responses under the same straps, and a step that answers. -/
theorem witness_ResponsePortsFollowTheRequestAtOnce :
    (Instr.decx 1 2).request.op ≠ 7#3 ∧ block 2 0 ≠ (block 2 0).present (Instr.encf64 5 0).request ∧
    (block 2 0).layout = ((block 2 0).present (Instr.encf64 5 0).request).layout ∧
    (block 2 0).hostLE = ((block 2 0).present (Instr.encf64 5 0).request).hostLE ∧
    nextOf (step (block 3 1)) = some (block 3 1) := by decide
/-- Two blocks whose requests differ in ignored bits alone: `WSEL` and the padding; `X0[63:32]` and `X1`. -/
theorem witness_IgnoredFieldsDoNotMatter :
    let s : State := { block 1 1 with op := 0, wsel := 3, x0 := 0x8000000000000000, x1 := 0xABCDEF0123453FFF }
    let s' : State := { block 1 1 with op := 0, wsel := 0, x0 := 0x8000000000000000, x1 := 0x3FFF }
    let t : State := { block 1 1 with op := 2, x0 := 0xFFFFFFFF42F6E979, x1 := 0x5555 }
    let t' : State := { block 1 1 with op := 2, x0 := 0x42F6E979 }
    s.wselRead = s'.wselRead ∧ s.bitsRead = s'.bitsRead ∧ t.wselRead = t'.wselRead ∧ t.bitsRead = t'.bitsRead := by decide
/-- The straps' two clauses: an operation that reads no strap, and `ENCX` under the two layouts that do not read
`HOST_LE`. -/
theorem witness_StrapsReadOnlyByExtendedOperations :
    let s : State := { block 3 0 with op := 6, wsel := 2, x0 := 1, x1 := 1 }
    let t : State := { block 0 1 with op := 0, x0 := 1 }
    (s.op ≠ 0#3 ∧ s.op ≠ 1#3 ∧ s.op ≠ 7#3) ∧ (t.op ≠ 7#3 ∧ t.layout ≠ 1#2 ∧ t.layout ≠ 2#2) ∧
    (s.layout ≠ 1#2 ∧ s.layout ≠ 2#2) := by decide
/-- The writer accepts an object under each known layout. -/
theorem witness_MachineRoundTrip :
    (Field.ext { w0 := 0x7FF0000000000001, w1 := 5 }).accepted (block 0 1).straps = true ∧
    (Field.ext { w0 := 0xABCDEF0123457FFF, w1 := 0x8000000000000000 }).accepted (block 1 0).straps = true ∧
    (Field.ext { w0 := 1, w1 := 0x7FFF000000000000 }).accepted (block 2 1).straps = true := by decide
/-- Each class of double that the clauses of `DoubleToQuadFidelity` name, at a boundary of its range. -/
theorem witness_DoubleToQuadFidelity :
    (block 0 1).layout = 0#2 ∧ (block 2 0).layout = 2#2 ∧
    [0x0010000000000000, 0x800FFFFFFFFFFFFF, 0xFFF0000000000000, 0xFFF0000000000001].map classify64 =
      [.normal, .denormal, .infinity, .nan] := by decide
/-- A quad infinity, and the two ends of the range in which a double can hold the number as a normal. -/
theorem witness_QuadToDoubleFidelity :
    classify128 0xFFFF0000000000000000000000000000#128 = .infinity ∧
    (quadExp 0x3C010000000000000000000000000000#128).toNat = 15361 ∧
    (quadExp 0xC3FEFFFFFFFFFFFFF000000000000000#128).toNat = 17406 ∧
    (0xC3FEFFFFFFFFFFFFF000000000000000#128).extractLsb' 0 60 = 0#60 := by decide
/-- The encoder and the decoder succeed on a negative object in each layout. -/
theorem witness_SignIsKept_LimbsDoNotDependOnHostOrder :
    (∀ h : Bool, encodeExtended classify { layout := .x87In16, hostLE := h } (natJoin h ⟨0xC000, 0xC90FDAA22168C235⟩) =
      .ok ⟨0xC000C90FDAA22168, 0xC235000000000000⟩) ∧
    encodeExtended classify { layout := .doubleAlias, hostLE := true } ⟨0xC004000000000000, 0⟩ =
      .ok ⟨0xC000400000000000, 0⟩ ∧
    (∀ h : Bool, decodeExtended classify { layout := .quad, hostLE := h } ⟨0xC000400000000000, 1⟩ =
      .ok (natJoin h ⟨0xC000400000000000, 1⟩)) := by decide
/-- An x87 infinity of 95 section 2.4, and a finite value, both encoded; a double and a quad, both encoded. -/
theorem witness_ClassThroughTheEncoder :
    encX87 classify ⟨0x7FFF, 0x8000000000000000⟩ = .ok ⟨0x7FFF800000000000, 0⟩ ∧
    classify80 (meaningful80 ⟨0x7FFF, 0x8000000000000000⟩) = .infinity ∧
    encX87 classify ⟨0, 0x8000000000000000⟩ = .ok ⟨0x0000800000000000, 0⟩ ∧
    encDouble classify 0x7FF0000000000000 = .ok ⟨0x7FFF000000000000, 0⟩ ∧
    encQuad classify ⟨0x7FFF000000000000, 1⟩ = .ok ⟨0x7FFF000000000000, 1⟩ := by decide
/-- An object of a field of each type on platforms of one layout and opposite word order (95 P3's values). -/
theorem witness_ObjectSurvivesTheArchive :
    (block 1 1).layout = (block 1 0).layout ∧
    ∀ f ∈ [Field.f32 0x42F6E979, .f64 0x40B62E0328B6D86F, .ext { w0 := 0x8000000000000000, w1 := 0xABCDEF0123453FFF }],
      f.accepted (block 1 1).straps = true := by decide
/-- `ENCX` served on a block where it answers limbs, and on one where it answers an error. -/
theorem witness_PutExtendedWritesHighLimbFirst :
    (putExtended (block 2 1) { w0 := 1, w1 := 2 } [.u32 7]).map Prod.snd = some [.u32 7, .u64 2, .u64 1] ∧
    (putExtended (block 3 1) { w0 := 1, w1 := 2 } [.u32 7]).map Prod.snd = some [.u32 7] := by decide

/-! ### An admissible classifier that is not the default (for the statements over every admissible classifier) -/

/-- A classifier with P1 to P4 that calls every pattern with an all-ones exponent field a NaN, and every pattern of the
widths 32 and 80 normal. -/
def noInfinity : Classifier := fun v w =>
  if w = 64 then
    if v.extractLsb' 52 11 = 0#11 then .denormal else if v.extractLsb' 52 11 = 2047#11 then .nan else .normal
  else if w = 128 then
    if v.extractLsb' 112 15 = 0#15 then .denormal else if v.extractLsb' 112 15 = 32767#15 then .nan else .normal
  else .normal

theorem noInfinity_64 (d : Word) : noInfinity (d.setWidth 128) 64 =
    if doubleExp d = 0#11 then .denormal else if doubleExp d = 2047#11 then .nan else .normal := by
  have h : (d.setWidth 128).extractLsb' 52 11 = doubleExp d := by
    apply BitVec.eq_of_getLsbD_eq
    intro i hi
    have : 52 + i < 128 := by omega
    simp [doubleExp, hi, this]
  simp [noInfinity, h]

theorem quadExp_encShuffle (d : Word) (e : BitVec 15) : quadExp (encShuffle d e).value = e := by
  apply BitVec.eq_of_getLsbD_eq
  intro i hi
  have hp : (quadExp (encShuffle d e).value).getLsbD i =
      ((encShuffle d e).hi ++ (encShuffle d e).lo).getLsbD (112 + i) := by simp [quadExp, Limbs.value, hi]
  have hh : (encShuffle d e).hi.getLsbD (48 + i) = (doubleSign d ++ e).getLsbD i := by
    refine (BitVec.getLsbD_append (x := doubleSign d ++ e) (y := (doubleFrac d).extractLsb' 4 48)).trans ?_
    simp
  rw [hp, BitVec.getLsbD_append, if_neg (by omega), show 112 + i - 64 = 48 + i by omega, hh, BitVec.getLsbD_append,
    if_pos hi]

theorem rebiasUp_ne (e : BitVec 11) : rebiasUp e ≠ 0#15 ∧ rebiasUp e ≠ 32767#15 := by
  have hlt := e.isLt
  constructor <;> intro h <;> have h' := congrArg BitVec.toNat h <;>
    simp [rebiasUp, Config.rebias, BitVec.toNat_add] at h' <;> omega

theorem noInfinity_admissible : AdmissibleClassifier noInfinity where
  low_bits v v' w h := by
    have e (a b : Nat) (hab : a + b ≤ w) : v.extractLsb' a b = v'.extractLsb' a b := by
      apply BitVec.eq_of_getLsbD_eq
      intro i hi
      simp [hi, h (a + i) (by omega)]
    unfold noInfinity
    by_cases h₁ : w = 64
    · rw [e 52 11 (by omega), if_pos h₁, if_pos h₁]
    · by_cases h₂ : w = 128
      · rw [e 112 15 (by omega), if_neg h₁, if_neg h₁]
      · rw [if_neg h₁, if_neg h₁, if_neg h₂, if_neg h₂]
  zeros64 d h := by rw [noInfinity_64, if_pos h]
  ones64 d h := by rw [noInfinity_64, h]; decide
  other64 d h₀ h₁ := by rw [noInfinity_64, if_neg h₀, if_neg h₁]
  zeros128 p h := by unfold quadExp at h; simp [noInfinity, h]
  ones128 p h := by unfold quadExp at h; simp [noInfinity, h]
  other128 p h₀ h₁ := by unfold quadExp at h₀ h₁; simp [noInfinity, h₀, h₁]
  total64 d := by rw [noInfinity_64]; split <;> (try split) <;> decide
  total128 p := by unfold noInfinity; split <;> (try split) <;> (try split) <;> (try split) <;> decide
  class_kept d l h := by
    have q : noInfinity l.value 128 =
        if quadExp l.value = 0#15 then .denormal else if quadExp l.value = 32767#15 then .nan else .normal := rfl
    unfold encDouble at h
    rw [noInfinity_64] at h ⊢
    rw [q]
    by_cases h₀ : doubleExp d = 0#11
    · rw [if_pos h₀] at h ⊢
      cases h
      rw [quadExp_encShuffle, if_pos rfl]
    · rw [if_neg h₀] at h ⊢
      by_cases h₁ : doubleExp d = 2047#11
      · rw [if_pos h₁] at h ⊢
        cases h
        rw [quadExp_encShuffle, if_neg (by decide), if_pos rfl]
      · rw [if_neg h₁] at h ⊢
        cases h
        rw [quadExp_encShuffle, if_neg (rebiasUp_ne _).1, if_neg (rebiasUp_ne _).2]

/-- An admissible classifier under which a double of one platform is encoded, and another platform of the same layout. -/
theorem witness_RoundTripForEveryAdmissibleClassifier :
    AdmissibleClassifier noInfinity ∧
    encodeExtended noInfinity { layout := .doubleAlias, hostLE := true } ⟨0x3FF0000000000000, 9⟩ =
      .ok ⟨0x3FFF000000000000, 0⟩ := ⟨noInfinity_admissible, by decide⟩

/-- Two objects that differ in the padding, with the same limbs. -/
theorem witness_EncoderLosesNoMeaningfulBit :
    AdmissibleClassifier noInfinity ∧
    encodeExtended noInfinity { layout := .x87In16, hostLE := true } ⟨0x8000000000000000, 0x3FFF⟩ =
      .ok ⟨0x3FFF800000000000, 0⟩ ∧
    encodeExtended noInfinity { layout := .x87In16, hostLE := true } ⟨0x8000000000000000, 0xABCDEF0123453FFF⟩ =
      .ok ⟨0x3FFF800000000000, 0⟩ := ⟨noInfinity_admissible, by decide, by decide⟩

end Sys2Proof.Tests
end

section
/-! SUPPORT. What the decoder makes of the request that the ports show, and the `OP` code of what it decodes (30_encoding
R40, R42, R50). -/

namespace Sys2Proof

/-- The four fields of a request word are read back as they were put together (30_encoding R40). -/
@[simp] theorem Request.ofBits_toBits (r : Request) : Request.ofBits r.toBits = r := by
  have hx0 : r.toBits.extractLsb' 0 64 = r.x0 := BitVec.extractLsb'_append_eq_right
  have hx1 : r.toBits.extractLsb' 64 64 = r.x1 :=
    (BitVec.extractLsb'_append_eq_of_le (by decide)).trans BitVec.extractLsb'_append_eq_right
  have hop : r.toBits.extractLsb' 128 3 = r.op :=
    (BitVec.extractLsb'_append_eq_of_le (by decide)).trans
      ((BitVec.extractLsb'_append_eq_of_le (by decide)).trans BitVec.extractLsb'_append_eq_right)
  have hwsel : r.toBits.extractLsb' 131 2 = r.wsel :=
    (BitVec.extractLsb'_append_eq_of_le (by decide)).trans
      ((BitVec.extractLsb'_append_eq_of_le (by decide)).trans BitVec.extractLsb'_append_eq_left)
  rw [Request.ofBits, hx0, hx1, hop, hwsel]

/-- The decoder of request words, seen from the request that was put on the wires. -/
@[simp] theorem decode_toBits (r : Request) : decode r.toBits = r.decode := by
  rw [decode, Request.ofBits_toBits]

/-- A decoded operation has the `OP` code that the request shows (30_encoding R42). -/
theorem Request.op_eq_of_decode {r : Request} {i : Instr} (h : r.decode = .ok i) : r.op = i.request.op := by
  unfold Request.decode at h
  split at h <;> cases h <;> exact BitVec.eq_of_toNat_eq ‹_›

/-- The decoder rejects no code but the reserved one (30_encoding R50). -/
theorem Request.exists_decode {r : Request} (h : r.op ≠ 7#3) : ∃ i, r.decode = .ok i := by
  have hlt : r.op.toNat < 8 := r.op.isLt
  have h7 : r.op.toNat ≠ 7 := fun h7 => h (BitVec.eq_of_toNat_eq h7)
  unfold Request.decode
  split
  case h_11 h0 h1 h2 h3 h4 h5 h6 _ _ _ => interval_cases r.op.toNat <;> contradiction
  all_goals exact ⟨_, rfl⟩

namespace Machine

/-- Any code but the reserved one on the port `OP` shows an operation, of that code. -/
theorem exists_decode_req {s : State} (h : s.op ≠ 7#3) : ∃ i, decode s.req = .ok i ∧ s.op = i.request.op := by
  obtain ⟨i, hi⟩ := Request.exists_decode (r := s.request) h
  exact ⟨i, (decode_toBits s.request).trans hi, Request.op_eq_of_decode hi⟩

end Machine

end Sys2Proof
end

section
/-! SUPPORT. Driving a response: what the response ports hold afterwards, and that nothing of what they held before is left
(10_state R13, R19; 30_encoding R45 to R47; 60_exceptions R124). -/

namespace Sys2Proof.Machine

/-- The inputs of the block and a response fix the whole state after the response. -/
theorem respond_congr {s s' : State} (hl : s.layout = s'.layout) (hh : s.hostLE = s'.hostLE)
    (hr : s.request = s'.request) (q : Response) : s.respond q = s'.respond q := by
  cases s
  cases s'
  cases hl
  cases hh
  cases hr
  match q with
  | .ok (.words _ _) => rfl
  | .ok (.verdict _) => rfl
  | .error _ => rfl

/-- The inputs of the block and a response word fix the whole state after the word is shown. -/
theorem showWord_congr {s s' : State} (hl : s.layout = s'.layout) (hh : s.hostLE = s'.hostLE)
    (hr : s.request = s'.request) (b : BitVec 133) : s.showWord b = s'.showWord b := by
  cases s
  cases s'
  cases hl
  cases hh
  cases hr
  rfl

/-- The response word after a response is that response's alone. -/
theorem respond_rsp (s s' : State) (q : Response) : (s.respond q).rsp = (s'.respond q).rsp := by
  match q with
  | .ok (.words _ _) => rfl
  | .ok (.verdict _) => rfl
  | .error _ => rfl

/-- An answer shows no error (30_encoding R47). -/
@[simp] theorem respond_ok_err (s : State) (a : Answer) : (s.respond (.ok a)).err = 0 := by
  cases a <;> rfl

/-- `CLS` codes 5 to 7 are no class's (30_encoding R46). -/
theorem classCode_toNat_le (c : ValueClass) : (classCode c).toNat ≤ 4 := by
  cases c <;> decide

/-- `ERR` code 3 is no error's (30_encoding R47). -/
theorem errorCode_toNat_le (k : ErrorKind) : (errorCode k).toNat ≤ 2 := by
  cases k <;> decide

/-- Every response is a legal one, whatever the ports held before. -/
theorem legalResponse_respond (s : State) (q : Response) : LegalResponse (s.respond q) := by
  match q with
  | .ok (.words _ _) => simp [LegalResponse]
  | .ok (.verdict c) => simp [LegalResponse, classCode_toNat_le]
  | .error k => simp [LegalResponse, errorCode_toNat_le]

end Sys2Proof.Machine
end

section
/-! SUPPORT. Which layout each error comes from (40_classifier R68; 60_exceptions R122, R123): the default classifier
recognises every pattern of 64 and of 128 bits, so `UnknownFloatPattern` is left to `X87In16`. -/

namespace Sys2Proof.Machine

/-- The one layout under which an error of the kind occurs (60_exceptions R122, R123). -/
def errorLayout : ErrorKind → Layout
  | .unknownFloatPattern => .x87In16
  | .unsupportedLongDoubleLayout => .none

theorem clsIeee_ne_unrecognized {we wf : Nat} (e : BitVec we) (f : BitVec wf) : clsIeee e f ≠ .unrecognized := by
  unfold clsIeee
  split_ifs <;> decide

theorem classify_64_ne_unrecognized (v : Wide) : classify v 64 ≠ .unrecognized :=
  clsIeee_ne_unrecognized _ _

theorem classify_128_ne_unrecognized (v : Wide) : classify v 128 ≠ .unrecognized :=
  clsIeee_ne_unrecognized _ _

/-- The encoder of doubles answers an error for an unrecognised pattern alone (41 R73 to R76). -/
theorem encDouble_ne_error {K : Classifier} {d : Word} (hc : K (d.setWidth 128) 64 ≠ .unrecognized) (k : ErrorKind) :
    encDouble K d ≠ .error k := by
  unfold encDouble
  cases h : K (d.setWidth 128) 64 with
  | unrecognized => exact absurd h hc
  | normal | denormal | infinity | nan => exact nofun

/-- The only error of the x87 encoder (41 R77). -/
theorem encX87_error {K : Classifier} {n : Halves} {k : ErrorKind} (h : encX87 K n = .error k) :
    k = .unknownFloatPattern := by
  unfold encX87 at h
  split at h <;> cases h
  rfl

/-- The quad encoder answers an error for an unrecognised pattern alone (41 R79). -/
theorem encQuad_ne_error {K : Classifier} {n : Halves} (hc : K n.value 128 ≠ .unrecognized) (k : ErrorKind) :
    encQuad K n ≠ .error k := by
  unfold encQuad
  cases h : K n.value 128 with
  | unrecognized => exact absurd h hc
  | normal | denormal | infinity | nan => exact nofun

/-- An error of the encoder names the layout it is under (41 R80; 60_exceptions R122, R123). -/
theorem encodeExtended_error_layout {p : Straps} {w : StorageWords} {k : ErrorKind}
    (h : encodeExtended classify p w = .error k) : p.layout = errorLayout k := by
  unfold encodeExtended at h
  cases hp : p.layout with
  | none =>
    rw [hp] at h
    cases h
    rfl
  | doubleAlias =>
    rw [hp] at h
    exact absurd h (encDouble_ne_error (classify_64_ne_unrecognized _) k)
  | x87In16 =>
    rw [hp] at h
    rw [encX87_error h]
    rfl
  | quad =>
    rw [hp] at h
    exact absurd h (encQuad_ne_error (classify_128_ne_unrecognized _) k)

/-- Without a known layout the decoder answers the layout error (42 R100). -/
theorem decodeExtended_of_none (K : Classifier) {p : Straps} (hp : p.layout = .none) (l : Limbs) :
    decodeExtended K p l = .error .unsupportedLongDoubleLayout := by
  unfold decodeExtended
  rw [hp]

/-- Under a known layout the decoder answers words for every recognised portable value (42 R93 to R99). -/
theorem decodeExtended_of_recognized {K : Classifier} {p : Straps} {l : Limbs} (hp : p.layout ≠ .none)
    (hc : K l.value 128 ≠ .unrecognized) : ∃ w, decodeExtended K p l = .ok w := by
  unfold decodeExtended
  cases hL : p.layout with
  | none => exact absurd hL hp
  | doubleAlias | x87In16 | quad =>
    cases hk : K l.value 128 with
    | unrecognized => exact absurd hk hc
    | normal | denormal | infinity | nan => exact ⟨_, rfl⟩

/-- An error of the decoder names the layout it is under; with the default classifier it is `NONE`, because every portable
value is recognised (60_exceptions R122, R123). -/
theorem decodeExtended_error_layout {p : Straps} {l : Limbs} {k : ErrorKind}
    (h : decodeExtended classify p l = .error k) : p.layout = errorLayout k := by
  by_cases hp : p.layout = .none
  · rw [decodeExtended_of_none _ hp] at h
    cases h
    exact hp
  · obtain ⟨w, hw⟩ := decodeExtended_of_recognized hp (classify_128_ne_unrecognized l.value)
    rw [hw] at h
    cases h

/-- An error response names the layout it is under, for every operation (60_exceptions R122, R123). -/
theorem responseOf_error_layout {p : Straps} {i : Instr} {k : ErrorKind} (h : responseOf p i = .error k) :
    p.layout = errorLayout k := by
  cases i with
  | encx x0 x1 =>
    simp only [responseOf, encxResponse] at h
    split at h
    · cases h
    · cases h
      exact encodeExtended_error_layout ‹_›
  | decx x0 x1 =>
    simp only [responseOf, decxResponse] at h
    split at h
    · cases h
    · cases h
      exact decodeExtended_error_layout ‹_›
  | encf32 | decf32 | encf64 | decf64 | classifyW32 | classifyW64 | classifyW80 | classifyW128 => exact absurd h nofun

/-- The strap code of the layout that a code selects is the code itself (10_state R16). -/
theorem layoutCode_layoutOfCode (c : BitVec 2) : layoutCode (layoutOfCode c) = c := by
  revert c
  decide

/-- A layout read from the strap is the one whose code the strap holds. -/
theorem layoutOfCode_eq_iff {c : BitVec 2} {L : Layout} : layoutOfCode c = L ↔ c = layoutCode L :=
  ⟨fun h => h ▸ (layoutCode_layoutOfCode c).symm, fun h => h ▸ layoutOfCode_layoutCode L⟩

/-- A response whose error names the layout of the block leaves ports that fit the layout. -/
theorem errorFitsLayout_respond {s : State} {q : Response} (h : ∀ k, q = .error k → s.straps.layout = errorLayout k) :
    ErrorFitsLayout (s.respond q) := by
  match q with
  | .ok a => exact ⟨by simp [errorCode], by simp [errorCode]⟩
  | .error k =>
    have hl : s.layout = layoutCode (errorLayout k) := layoutOfCode_eq_iff.mp (h k rfl)
    cases k <;> simp [ErrorFitsLayout, errorCode, hl, errorLayout]

end Sys2Proof.Machine
end

section
/-! SUPPORT. Which straps a response depends on (10_state R16, R17; 43_passthrough R115). -/

namespace Sys2Proof.Machine

/-- Every operation but `ENCX` and `DECX` answers without reading a strap, and never with an error (43_passthrough R115;
60_exceptions R121, R122). -/
theorem responseOf_of_not_extended {i : Instr} (henc : i.request.op ≠ 0#3) (hdec : i.request.op ≠ 1#3) :
    ∃ a, ∀ p, responseOf p i = .ok a := by
  cases i with
  | encx => exact absurd rfl henc
  | decx => exact absurd rfl hdec
  | encf32 | decf32 | encf64 | decf64 | classifyW32 | classifyW64 | classifyW80 | classifyW128 =>
    exact ⟨_, fun _ => rfl⟩

/-- Under `DoubleAlias` and `NONE` the encoder does not look at the word order (10_state R17). -/
theorem encodeExtended_hostLE (K : Classifier) {L : Layout} (hx : L ≠ .x87In16) (hq : L ≠ .quad) (b b' : Bool)
    (w : StorageWords) : encodeExtended K ⟨L, b⟩ w = encodeExtended K ⟨L, b'⟩ w := by
  cases L with
  | doubleAlias | none => rfl
  | x87In16 => exact absurd rfl hx
  | quad => exact absurd rfl hq

/-- Under `DoubleAlias` and `NONE` the decoder does not look at the word order (10_state R17). -/
theorem decodeExtended_hostLE (K : Classifier) {L : Layout} (hx : L ≠ .x87In16) (hq : L ≠ .quad) (b b' : Bool)
    (l : Limbs) : decodeExtended K ⟨L, b⟩ l = decodeExtended K ⟨L, b'⟩ l := by
  cases L with
  | doubleAlias | none => rfl
  | x87In16 => exact absurd rfl hx
  | quad => exact absurd rfl hq

/-- Under `DoubleAlias` and `NONE` no response depends on the word order (10_state R17). -/
theorem responseOf_hostLE {L : Layout} (hx : L ≠ .x87In16) (hq : L ≠ .quad) (b b' : Bool) (i : Instr) :
    responseOf ⟨L, b⟩ i = responseOf ⟨L, b'⟩ i := by
  cases i with
  | encx => simp only [responseOf, encxResponse, encodeExtended_hostLE classify hx hq b b']
  | decx => simp only [responseOf, decxResponse, decodeExtended_hostLE classify hx hq b b']
  | encf32 | decf32 | encf64 | decf64 | classifyW32 | classifyW64 | classifyW80 | classifyW128 => rfl

end Sys2Proof.Machine
end

section
/-! SUPPORT. What a step and a settling leave: the invariant of every step, and ports that follow their inputs
(10_state R18, R19, R21). -/

namespace Sys2Proof.Machine

/-- A step on a request that selects an operation drives the operation's response. -/
theorem step_of_decode {s : State} {i : Instr} (h : decode s.req = .ok i) :
    step s = .next (s.respond (responseOf s.straps i)) := by
  rw [step_eq, h]

/-- A step on a request that selects none is refused. -/
theorem step_of_reject {s : State} {e : Reject} (h : decode s.req = .error e) : step s = .refused .reservedOperation := by
  rw [step_eq, h]

/-- Serving the request once more after a step changes nothing (20_memory R35). -/
theorem settled_of_step {s t : State} (h : step s = .next t) : Settled t := by
  obtain ⟨i, hd, rfl⟩ := step_next h
  have hd' : decode (s.respond (responseOf s.straps i)).req = .ok i := by rwa [respond_req]
  rw [Settled, step_of_decode hd', respond_straps, respond_respond]

/-- A step shows an error only under the layout that gives it (60_exceptions R122, R123). -/
theorem errorFitsLayout_of_step {s t : State} (h : step s = .next t) : ErrorFitsLayout t := by
  obtain ⟨i, -, rfl⟩ := step_next h
  exact errorFitsLayout_respond fun _ => responseOf_error_layout

/-- A step leaves legal response ports, from any ports at all. -/
theorem legalResponse_of_step {s t : State} (h : step s = .next t) : LegalResponse t := by
  obtain ⟨i, -, rfl⟩ := step_next h
  exact legalResponse_respond s _

@[simp] theorem settle_layout (s : State) : s.settle.layout = s.layout := by
  cases h : decode s.req with
  | ok i => rw [settle_of_decode h, respond_layout]
  | error e => cases e; rw [settle_of_reject h, showWord_layout]

@[simp] theorem settle_hostLE (s : State) : s.settle.hostLE = s.hostLE := by
  cases h : decode s.req with
  | ok i => rw [settle_of_decode h, respond_hostLE]
  | error e => cases e; rw [settle_of_reject h, showWord_hostLE]

@[simp] theorem settle_request (s : State) : s.settle.request = s.request := (settle_inputs s).2.1

/-- The settled ports are a function of the straps and the request: what the response ports showed plays no part
(10_state R21). -/
theorem settle_congr {s s' : State} (hl : s.layout = s'.layout) (hh : s.hostLE = s'.hostLE)
    (hr : s.request = s'.request) : s.settle = s'.settle := by
  have hreq : s'.req = s.req := congrArg Request.toBits hr.symm
  have hp : s'.straps = s.straps := by rw [State.straps, State.straps, hl, hh]
  cases h : decode s.req with
  | ok i =>
    have h' : decode s'.req = .ok i := by rw [hreq, h]
    rw [settle_of_decode h, settle_of_decode h', hp]
    exact respond_congr hl hh hr _
  | error e =>
    cases e
    have h' : decode s'.req = .error .reservedOperation := by rw [hreq, h]
    rw [settle_of_reject h, settle_of_reject h', hreq, hl, hh]
    exact showWord_congr hl hh hr _

/-- Where the request is not the reserved one, a step answers the settled ports. -/
theorem step_eq_next_settle {s : State} (h : s.op ≠ 7#3) : step s = .next s.settle := by
  obtain ⟨i, hd, -⟩ := exists_decode_req h
  exact step_eq_settle hd

/-- Settled ports follow their inputs, in every state. -/
theorem portsFollow_settle (s : State) : PortsFollow s.settle := by
  intro h
  have hop : s.settle.op = s.op := congrArg Request.op (settle_request s)
  rw [Settled, step_settle, step_eq_next_settle (hop ▸ h)]

@[simp] theorem present_request (s : State) (r : Request) : (s.present r).request = r :=
  settle_request (s.drive r)

@[simp] theorem present_layout (s : State) (r : Request) : (s.present r).layout = s.layout :=
  settle_layout (s.drive r)

@[simp] theorem present_hostLE (s : State) (r : Request) : (s.present r).hostLE = s.hostLE :=
  settle_hostLE (s.drive r)

/-- A request is served as the ports show it once it is presented. -/
theorem served_eq_present (s : State) {r : Request} (h : r.op ≠ 7#3) : served s r = some (s.present r) :=
  served_eq_some_iff.mpr (step_eq_next_settle (s := s.drive r) h)

/-- The ports after reset are those of a step on `ENCX` of zeros, the request of entry 3. -/
theorem step_of_resetOn (L : BitVec 2) (h : BitVec 1) :
    step { State.reset with layout := L, hostLE := h } = .next (State.resetOn L h) :=
  step_eq_next_settle (show (0#3 : BitVec 3) ≠ 7#3 by decide)

/-- `State.reset` is the reset of the platform whose straps are 0 (entry 2). -/
theorem reset_eq_resetOn : State.reset = State.resetOn 0#2 0#1 := by
  decide

end Sys2Proof.Machine
end

section
/-! The statements of 10_state, each from the facts above about responses, steps and settled ports. -/

namespace Sys2Proof.Machine

/-- Settles O34: each part is a fact about the response that the step drove. -/
theorem everyStepLeavesLegalSettledPorts : Obligations.EveryStepLeavesLegalSettledPorts := by
  intro s t h
  obtain ⟨i, -, ht⟩ := step_next h
  have hin : t.straps = s.straps ∧ t.request = s.request := by simp [ht]
  exact ⟨legalResponse_of_step h, errorFitsLayout_of_step h, settled_of_step h, hin⟩

/-- Settles O31: equal straps and requests select the same operation and give it the same response. -/
theorem sameRequestSameResponse : Obligations.SameRequestSameResponse := by
  intro s s' hp hr
  cases hd : decode s.req with
  | ok i =>
    refine .inr ⟨_, _, step_of_decode hd, step_of_decode (hr ▸ hd), ?_⟩
    rw [hp]
    exact respond_rsp s s' _
  | error e => exact .inl ⟨step_of_reject hd, step_of_reject (hr ▸ hd)⟩

/-- Settles O37, by the dependence of the responses on the straps. -/
theorem strapsReadOnlyByExtendedOperations : Obligations.StrapsReadOnlyByExtendedOperations := by
  intro s L h
  constructor
  · intro henc hdec hres
    obtain ⟨i, hd, hop⟩ := exists_decode_req hres
    obtain ⟨a, ha⟩ := responseOf_of_not_extended (hop ▸ henc) (hop ▸ hdec)
    refine ⟨_, _, step_of_decode hd, step_of_decode (s := { s with layout := L, hostLE := h }) hd, ?_, ?_⟩
    · rw [ha, ha]
      exact respond_rsp _ _ _
    · rw [ha, respond_ok_err]
  · intro hres hx hq
    obtain ⟨i, hd, -⟩ := exists_decode_req hres
    refine ⟨_, _, step_of_decode hd, step_of_decode (s := { s with hostLE := h }) hd, ?_⟩
    have hresp : responseOf s.straps i = responseOf { s with hostLE := h }.straps i :=
      responseOf_hostLE (mt layoutOfCode_eq_iff.mp hx) (mt layoutOfCode_eq_iff.mp hq) _ _ i
    rw [hresp]
    exact respond_rsp _ _ _

/-- Settles O48: presenting a request settles the ports, a step leaves them settled, and so does reset. -/
theorem responsePortsFollowTheRequestAtOnce : Obligations.ResponsePortsFollowTheRequestAtOnce := by
  refine ⟨fun s r => ⟨present_request s r, present_layout s r, present_hostLE s r, served_eq_present s, ?_⟩,
    fun s r => portsFollow_settle (s.drive r), fun s t h _ => settled_of_step h, ?_⟩
  · intro s' hl hh
    exact settle_congr (s := s.drive r) (s' := s'.drive r) hl hh rfl
  · rw [reset_eq_resetOn]
    exact portsFollow_settle _

/-- Settles O5: the request word is the one the ports show, and `step` hands the decoded operation to `exec`. -/
theorem stepRunsTheDecodedOperation : Obligations.StepRunsTheDecodedOperation := by
  intro s i h
  have hd : decode s.req = .ok i := h
  rw [step_of_decode hd, exec_eq_respond]

/-- Settles O33: an operation does nothing but drive its response. -/
theorem operationsWriteOnlyResponsePorts : Obligations.OperationsWriteOnlyResponsePorts := by
  intro i s t h
  rw [exec_eq_respond] at h
  cases h
  simp

/-- Settles O35: the ports after reset are those that a step leaves, so they have what every step leaves. -/
theorem resetPortsAreLegalAndSettled : Obligations.ResetPortsAreLegalAndSettled := by
  refine ⟨reset_eq_resetOn, fun L h => ⟨settle_layout _, settle_hostLE _, ?_⟩⟩
  have hstep := step_of_resetOn L h
  exact ⟨legalResponse_of_step hstep, errorFitsLayout_of_step hstep, settled_of_step hstep⟩

end Sys2Proof.Machine
end

section
/-! SUPPORT. What an operation's own request is served with, and what the requester makes of the answer to `ENCX`
(20_memory R27, R28; 41_encode_extended R70, R81; 60_exceptions R127). -/

namespace Sys2Proof

/-- The request of an operation decodes to that operation (30_encoding R42). -/
@[simp] theorem Request.decode_request (i : Instr) : i.request.decode = .ok i := by
  cases i <;> rfl

namespace Machine

/-- Every operation's request is served, with the operation's response (10_state R20). -/
theorem served_request (s : State) (i : Instr) :
    served s i.request = some ((s.drive i.request).respond (responseOf s.straps i)) := by
  have hd : decode (s.drive i.request).req = .ok i := by simp
  rw [served_eq_some_iff, step_of_decode hd, drive_straps]

/-- Where the encoder gives limbs, `ENCX` answers HI in `Y0` and LO in `Y1`, whatever the word order (41 R81). -/
theorem served_encx_of_ok {s : State} {w : StorageWords} {l : Limbs} (h : encodeExtended classify s.straps w = .ok l) :
    served s (Instr.encx w.w0 w.w1).request =
      some ((s.drive (Instr.encx w.w0 w.w1).request).answerWords l.hi l.lo) := by
  have hresp : responseOf s.straps (.encx w.w0 w.w1) = .ok (.words l.hi l.lo) := by
    simp only [responseOf, encxResponse, h]
  rw [served_request, hresp, respond_words]

/-- Where the encoder gives an error, `ENCX` raises it (60_exceptions R124). -/
theorem served_encx_of_error {s : State} {w : StorageWords} {k : ErrorKind}
    (h : encodeExtended classify s.straps w = .error k) :
    served s (Instr.encx w.w0 w.w1).request = some ((s.drive (Instr.encx w.w0 w.w1).request).raise k) := by
  have hresp : responseOf s.straps (.encx w.w0 w.w1) = .error k := by
    simp only [responseOf, encxResponse, h]
  rw [served_request, hresp, respond_error]

/-- No error kind has the code of "no error" (30_encoding R47). -/
theorem errorCode_ne_zero (k : ErrorKind) : errorCode k ≠ 0 := by
  cases k <;> decide

/-- After an `ENCX` without an error the requester has appended `Y0` and then `Y1` to the archive (20_memory R28). -/
theorem putExtended_of_served {s t : State} {w : StorageWords}
    (h : served s (Instr.encx w.w0 w.w1).request = some t) (herr : t.err = 0) (a : Archive) :
    putExtended s w a = some (t, a ++ [.u64 t.y0, .u64 t.y1]) := by
  simp only [putExtended, h, if_pos herr, writeU64, List.append_assoc, List.cons_append, List.nil_append]

/-- After an `ENCX` with an error the archive is as it was (60_exceptions R127). -/
theorem putExtended_of_served_error {s t : State} {w : StorageWords}
    (h : served s (Instr.encx w.w0 w.w1).request = some t) (herr : t.err ≠ 0) (a : Archive) :
    putExtended s w a = some (t, a) := by
  simp only [putExtended, h, if_neg herr]

end Machine

end Sys2Proof
end

section
/-! The statement of 20_memory, from what `ENCX` is served with. -/

namespace Sys2Proof.Machine

/-- Settles O46, by the two results of the encoder: each fixes the state after `ENCX`, and with it what the requester
writes. -/
theorem putExtendedWritesHighLimbFirst : Obligations.PutExtendedWritesHighLimbFirst := by
  intro s w a
  cases h : encodeExtended classify s.straps w with
  | ok l =>
    have ht := served_encx_of_ok h
    exact ⟨_, ht, rfl, putExtended_of_served ht rfl a⟩
  | error k =>
    have ht := served_encx_of_error h
    exact ⟨_, ht, rfl, putExtended_of_served_error ht (errorCode_ne_zero k) a⟩

end Sys2Proof.Machine
end

section
/-! SUPPORT. The decoder and the encoder as inverses of each other: what decodes to an operation is that operation's request,
but for `WSEL` where it is ignored (30_encoding R40, R42, R43, R49, R50, R52). -/

namespace Sys2Proof

/-- A request word put together again from its four fields is the word (30_encoding R40). -/
@[simp] theorem Request.toBits_ofBits (b : BitVec 133) : (Request.ofBits b).toBits = b := by
  have hcmd : b.extractLsb' 131 2 ++ b.extractLsb' 128 3 = b.extractLsb' 128 5 :=
    BitVec.extractLsb'_append_extractLsb'_eq_extractLsb' (by decide)
  have hx1 : b.extractLsb' 128 5 ++ b.extractLsb' 64 64 = b.extractLsb' 64 69 :=
    BitVec.extractLsb'_append_extractLsb'_eq_extractLsb' (by decide)
  have hx0 : b.extractLsb' 64 69 ++ b.extractLsb' 0 64 = b.extractLsb' 0 133 :=
    BitVec.extractLsb'_append_extractLsb'_eq_extractLsb' (by decide)
  rw [Request.toBits, Request.ofBits, hcmd, hx1, hx0, BitVec.extractLsb'_eq_self]

/-- `CMD` is the top five bits of the request word (30_encoding R40). -/
theorem Request.cmd_ofBits (b : BitVec 133) : (Request.ofBits b).cmd = b.extractLsb' 128 5 :=
  BitVec.extractLsb'_append_extractLsb'_eq_extractLsb' (by decide)

/-- `WSEL` as an operation of code `op` reads it: zero where it is ignored (30_encoding R43, R49). -/
def wselOf (op : BitVec 3) (wsel : BitVec 2) : BitVec 2 := if op = 6#3 then wsel else 0#2

/-- The request with `WSEL` cleared where it is ignored (30_encoding R43, R49). -/
def Request.clearIgnoredWsel (r : Request) : Request := { r with wsel := wselOf r.op r.wsel }

/-- On a request word, clearing an ignored `WSEL` clears the top two bits (30_encoding R40, R43, R49). -/
theorem Request.toBits_clearIgnoredWsel (b : BitVec 133) :
    (Request.ofBits b).clearIgnoredWsel.toBits =
      if b.extractLsb' 128 3 = 6#3 then b else 0#2 ++ b.extractLsb' 0 131 := by
  by_cases h : b.extractLsb' 128 3 = 6#3
  · have hop : (Request.ofBits b).op = 6#3 := h
    rw [if_pos h, clearIgnoredWsel, wselOf, if_pos hop, toBits_ofBits]
  · have hop : (Request.ofBits b).op ≠ 6#3 := h
    have hx : b.extractLsb' 64 64 ++ b.extractLsb' 0 64 = b.extractLsb' 0 128 :=
      BitVec.extractLsb'_append_extractLsb'_eq_extractLsb' (by decide)
    have hlow : b.extractLsb' 128 3 ++ b.extractLsb' 0 128 = b.extractLsb' 0 131 :=
      BitVec.extractLsb'_append_extractLsb'_eq_extractLsb' (by decide)
    rw [if_neg h, clearIgnoredWsel, wselOf, if_neg hop, ← hlow, ← hx]
    simp only [toBits, ofBits, BitVec.append_assoc, BitVec.cast_eq]

/-- A `WSEL` that is ignored does not select the operation (30_encoding R49). -/
theorem Request.decode_clearIgnoredWsel (r : Request) : r.clearIgnoredWsel.decode = r.decode := by
  by_cases h : r.op = 6#3
  · rw [clearIgnoredWsel, wselOf, if_pos h]
  · have h6 : r.op.toNat ≠ 6 := fun h6 => h (BitVec.eq_of_toNat_eq h6)
    unfold Request.decode
    simp only [clearIgnoredWsel]
    split <;> simp_all

/-- A decoded operation has the `WSEL` code that it reads in the request (30_encoding R43, R49). -/
theorem Request.wsel_of_decode {r : Request} {i : Instr} (h : r.decode = .ok i) :
    i.request.wsel = wselOf r.op r.wsel := by
  have hop : r.op = i.request.op := Request.op_eq_of_decode h
  rw [wselOf, hop]
  unfold Request.decode at h
  split at h <;> cases h
  case h_7 | h_8 | h_9 => exact (BitVec.eq_of_toNat_eq ‹_›).symm
  case h_10 h0 h1 h2 =>
    have hw : ∀ w : BitVec 2, w.toNat ≠ 0 → w.toNat ≠ 1 → w.toNat ≠ 2 → 3#2 = w := by decide
    exact hw r.wsel h0 h1 h2
  all_goals rfl

/-- A decoded operation has the operand words of the request (30_encoding R40). -/
theorem Request.operands_of_decode {r : Request} {i : Instr} (h : r.decode = .ok i) : i.operands = (r.x0, r.x1) := by
  unfold Request.decode at h
  split at h <;> cases h <;> rfl

/-- An operation's request carries its operand words (30_encoding R40). -/
theorem Instr.operands_eq (i : Instr) : i.operands = (i.request.x0, i.request.x1) := by
  cases i <;> rfl

/-- An operation's request, field by field, against a request on the ports. -/
theorem Instr.request_eq_clearIgnoredWsel_iff {i : Instr} {r : Request} :
    i.request = r.clearIgnoredWsel ↔
      (r.op = i.request.op ∧ wselOf r.op r.wsel = i.request.wsel) ∧ i.operands = (r.x0, r.x1) := by
  rw [Instr.operands_eq, Prod.mk.injEq]
  constructor
  · intro h
    rw [h]
    exact ⟨⟨rfl, rfl⟩, rfl, rfl⟩
  · rintro ⟨⟨hop, hw⟩, hx0, hx1⟩
    rw [Request.clearIgnoredWsel, hw, hop, ← hx0, ← hx1]

/-- A request selects the operation whose own request it is, but for a `WSEL` that is ignored (30_encoding R42, R43,
R49). -/
theorem Request.decode_eq_ok_iff {r : Request} {i : Instr} : r.decode = .ok i ↔ i.request = r.clearIgnoredWsel := by
  constructor
  · intro h
    exact Instr.request_eq_clearIgnoredWsel_iff.mpr
      ⟨⟨Request.op_eq_of_decode h, (Request.wsel_of_decode h).symm⟩, Request.operands_of_decode h⟩
  · intro h
    rw [← Request.decode_clearIgnoredWsel, ← h, Request.decode_request]

/-- Two operations with one request are one operation. -/
theorem Instr.request_injective : Function.Injective Instr.request := by
  intro i j h
  have hd : i.request.decode = .ok j := h ▸ Request.decode_request j
  exact Except.ok.inj ((Request.decode_request i).symm.trans hd)

/-- The decoder rejects the reserved code and no other (30_encoding R50). -/
theorem Request.decode_eq_error_iff {r : Request} : r.decode = .error .reservedOperation ↔ r.op = 7#3 := by
  constructor
  · intro h
    by_contra hne
    obtain ⟨i, hi⟩ := Request.exists_decode hne
    rw [hi] at h
    cases h
  · intro h
    unfold Request.decode
    rw [h]
    rfl

/-- The mask of a row keeps `OP`, and `WSEL` where it is read: `CMD` meets the row of an operation exactly when it holds the
codes of the operation (30_encoding R42, R43). -/
theorem Instr.cmd_and_mask_eq_pattern_iff (i : Instr) (r : Request) :
    r.cmd &&& i.row.mask = i.row.pattern ↔ r.op = i.request.op ∧ wselOf r.op r.wsel = i.request.wsel := by
  obtain ⟨op, wsel, x0, x1⟩ := r
  unfold Request.cmd
  cases i <;> simp only [Instr.row, Instr.request] <;> revert op wsel <;> decide

end Sys2Proof
end

section
/-! SUPPORT. What each operation makes of the operand bits that it reads alone: which bits of a word the parts of the datapath
look at (30_encoding R44, R49). -/

namespace Sys2Proof.Machine

/-- The lower 16 bits of a word are all that a mask of 16 bits leaves to be read. -/
theorem extractLsb'_and_0xFFFF (x : Word) : (x &&& 0xFFFF#64).extractLsb' 0 16 = x.extractLsb' 0 16 := by
  have hmask : (0xFFFF#64).extractLsb' 0 16 = BitVec.allOnes 16 := by decide
  rw [BitVec.extractLsb'_and, hmask, BitVec.and_allOnes]

/-- A shift by 48 keeps the lower 16 bits of a word alone. -/
theorem and_0xFFFF_shiftLeft_48 (x : Word) : (x &&& 0xFFFF#64) <<< 48 = x <<< 48 := by
  have hmask : (0xFFFF#64) <<< 48 = (BitVec.allOnes 64) <<< 48 := by decide
  rw [BitVec.shiftLeft_and_distrib, hmask, ← BitVec.shiftLeft_and_distrib, BitVec.and_allOnes]

/-- A 32-bit operand lies in the lower half of its word (30_encoding R44). -/
theorem operand32_and_0xFFFFFFFF (x : Word) : operand32 (x &&& 0xFFFFFFFF#64) = operand32 x := by
  have hmask : (0xFFFFFFFF#64).extractLsb' 0 32 = BitVec.allOnes 32 := by decide
  rw [operand32, BitVec.extractLsb'_and, hmask, BitVec.and_allOnes, operand32]

/-- The x87 encoder does not look at the padding (30_encoding R44; 41 R77). -/
theorem encX87_and_0xFFFF (K : Classifier) (h l : Word) : encX87 K ⟨h &&& 0xFFFF#64, l⟩ = encX87 K ⟨h, l⟩ := by
  simp only [encX87, meaningful80, extractLsb'_and_0xFFFF, and_0xFFFF_shiftLeft_48]

/-- `CLASSIFY.W32` looks at the 32-bit operand alone (40 R61). -/
theorem classify_operandV_32 (x0 x1 : Word) : classify (operandV x0 x1) 32 = classify32 (operand32 x0) :=
  congrArg classify32 (BitVec.extractLsb'_append_eq_of_add_le (by decide))

/-- `CLASSIFY.W64` looks at `X0` alone (40 R62). -/
theorem classify_operandV_64 (x0 x1 : Word) : classify (operandV x0 x1) 64 = classify64 x0 :=
  congrArg classify64 BitVec.extractLsb'_append_eq_right

/-- `CLASSIFY.W80` looks at `X1[15:0]` and `X0` (40 R63). -/
theorem classify_operandV_80 (x0 x1 : Word) :
    classify (operandV x0 x1) 80 = classify80 (x1.extractLsb' 0 16 ++ x0) := by
  have hsplit : (operandV x0 x1).extractLsb' 64 16 ++ (operandV x0 x1).extractLsb' 0 64 =
      (operandV x0 x1).extractLsb' 0 80 := BitVec.extractLsb'_append_extractLsb'_eq_extractLsb' (by decide)
  have hhi : (operandV x0 x1).extractLsb' 64 16 = x1.extractLsb' 0 16 := BitVec.extractLsb'_append_eq_of_le (by decide)
  have hlo : (operandV x0 x1).extractLsb' 0 64 = x0 := BitVec.extractLsb'_append_eq_right
  rw [hhi, hlo] at hsplit
  exact congrArg classify80 hsplit.symm

end Sys2Proof.Machine
end

section
/-! SUPPORT. A response is the response to the operand bits that the operation reads (30_encoding R44, R49). -/

namespace Sys2Proof

/-- The operation with the words of `X1 ∥ X0 = v` in place of its operand words. -/
def Instr.withOperands (i : Instr) (v : Wide) : Instr :=
  let x0 := v.extractLsb' 0 64
  let x1 := v.extractLsb' 64 64
  match i with
  | .encx _ _ => .encx x0 x1
  | .decx _ _ => .decx x0 x1
  | .encf32 _ _ => .encf32 x0 x1
  | .decf32 _ _ => .decf32 x0 x1
  | .encf64 _ _ => .encf64 x0 x1
  | .decf64 _ _ => .decf64 x0 x1
  | .classifyW32 _ _ => .classifyW32 x0 x1
  | .classifyW64 _ _ => .classifyW64 x0 x1
  | .classifyW80 _ _ => .classifyW80 x0 x1
  | .classifyW128 _ _ => .classifyW128 x0 x1

/-- New operand words leave the codes of an operation as they are (30_encoding R40). -/
theorem Instr.withOperands_request (i : Instr) (v : Wide) :
    (i.withOperands v).request =
      { op := i.request.op, wsel := i.request.wsel, x0 := v.extractLsb' 0 64, x1 := v.extractLsb' 64 64 } := by
  cases i <;> rfl

/-- An operation is given by its codes and its operand words (30_encoding R42). -/
theorem Instr.withOperands_congr {i j : Instr} (hop : i.request.op = j.request.op)
    (hw : i.request.wsel = j.request.wsel) (v : Wide) : i.withOperands v = j.withOperands v := by
  apply Instr.request_injective
  rw [Instr.withOperands_request, Instr.withOperands_request, hop, hw]

namespace Machine

/-- The decoder sees the request on the request ports (10_state R12; 30_encoding R40). -/
theorem decode_req (s : State) : decode s.req = s.request.decode := decode_toBits s.request

/-- The operation on the request ports has the `WSEL` code that it reads there (30_encoding R43, R49). -/
theorem wsel_eq_wselRead {s : State} {i : Instr} (h : decode s.req = .ok i) : i.request.wsel = s.wselRead :=
  Request.wsel_of_decode (decode_req s ▸ h)

/-- The encoder answers alike to the bits that `ENCX` reads under the straps (30_encoding R44; 41 R71, R77, R79, R80). -/
theorem encodeExtended_bitsRead (K : Classifier) {s : State} (hop : s.op = 0#3) :
    encodeExtended K s.straps ⟨s.bitsRead.extractLsb' 0 64, s.bitsRead.extractLsb' 64 64⟩ =
      encodeExtended K s.straps ⟨s.x0, s.x1⟩ := by
  cases hL : s.straps.layout with
  | none => simp only [encodeExtended, hL]
  | doubleAlias =>
    have hl : s.layout = 0#2 := layoutOfCode_eq_iff.mp hL
    have hb : s.bitsRead = 0#64 ++ s.x0 := by simp [State.bitsRead, hop, hl]
    simp only [encodeExtended, hL, hb, BitVec.extractLsb'_append_eq_right]
  | x87In16 =>
    have hl : s.layout = 1#2 := layoutOfCode_eq_iff.mp hL
    by_cases hh : s.hostLE = 1#1
    · have hb : s.bitsRead = (s.x1 &&& 0xFFFF#64) ++ s.x0 := by simp [State.bitsRead, hop, hl, hh]
      have hLE : s.straps.hostLE = true := by simp [State.straps, hh]
      simp only [encodeExtended, hL, hb, hLE, natSplit, if_true, BitVec.extractLsb'_append_eq_right,
        BitVec.extractLsb'_append_eq_left, encX87_and_0xFFFF]
    · have hb : s.bitsRead = s.x1 ++ (s.x0 &&& 0xFFFF#64) := by simp [State.bitsRead, hop, hl, hh]
      have hLE : s.straps.hostLE = false := by simp [State.straps, hh]
      simp only [encodeExtended, hL, hb, hLE, natSplit, Bool.false_eq_true, if_false, BitVec.extractLsb'_append_eq_right,
        BitVec.extractLsb'_append_eq_left, encX87_and_0xFFFF]
  | quad =>
    have hl : s.layout = 2#2 := layoutOfCode_eq_iff.mp hL
    have hb : s.bitsRead = s.x1 ++ s.x0 := by simp [State.bitsRead, hop, hl]
    rw [hb, BitVec.extractLsb'_append_eq_right, BitVec.extractLsb'_append_eq_left]

/-- The decoder answers alike to the bits that `DECX` reads under the straps (30_encoding R44; 42 R90, R100). -/
theorem decodeExtended_bitsRead (K : Classifier) {s : State} (hop : s.op = 1#3) :
    decodeExtended K s.straps ⟨s.bitsRead.extractLsb' 0 64, s.bitsRead.extractLsb' 64 64⟩ =
      decodeExtended K s.straps ⟨s.x0, s.x1⟩ := by
  by_cases hL : s.straps.layout = .none
  · rw [decodeExtended_of_none K hL, decodeExtended_of_none K hL]
  · have hl : s.layout.toNat ≠ 3 := fun h3 => hL (layoutOfCode_eq_iff.mpr (BitVec.eq_of_toNat_eq h3))
    have hb : s.bitsRead = s.x1 ++ s.x0 := by simp [State.bitsRead, hop]
    rw [hb, BitVec.extractLsb'_append_eq_right, BitVec.extractLsb'_append_eq_left]

/-- The operation on the request ports answers alike to the bits that it reads (30_encoding R44, R49). -/
theorem responseOf_withOperands_bitsRead {s : State} {i : Instr} (h : decode s.req = .ok i) :
    responseOf s.straps (i.withOperands s.bitsRead) = responseOf s.straps i := by
  have hw : i.request.wsel = s.wselRead := wsel_eq_wselRead h
  have hd : s.request.decode = .ok i := decode_req s ▸ h
  have hop : s.op = i.request.op := Request.op_eq_of_decode hd
  have hx : i.operands = (s.x0, s.x1) := Request.operands_of_decode hd
  cases i with
  | encx x0 x1 =>
    cases hx
    simp only [responseOf, Instr.withOperands, encxResponse, encodeExtended_bitsRead classify hop]
  | decx x0 x1 =>
    cases hx
    simp only [responseOf, Instr.withOperands, decxResponse, decodeExtended_bitsRead classify hop]
  | encf32 x0 x1 | decf32 x0 x1 =>
    cases hx
    have hb : s.bitsRead = 0#64 ++ (s.x0 &&& 0xFFFFFFFF#64) := by simp [State.bitsRead, hop, Instr.request]
    simp only [responseOf, Instr.withOperands, hb, BitVec.extractLsb'_append_eq_right, pass32, operand32_and_0xFFFFFFFF]
  | encf64 x0 x1 | decf64 x0 x1 =>
    cases hx
    have hb : s.bitsRead = 0#64 ++ s.x0 := by simp [State.bitsRead, hop, Instr.request]
    simp only [responseOf, Instr.withOperands, hb, BitVec.extractLsb'_append_eq_right]
  | classifyW32 x0 x1 =>
    cases hx
    have hsel : s.wsel = 0#2 := by simpa [State.wselRead, hop, Instr.request] using hw.symm
    have hb : s.bitsRead = 0#64 ++ (s.x0 &&& 0xFFFFFFFF#64) := by simp [State.bitsRead, hop, hsel, Instr.request]
    simp only [responseOf, Instr.withOperands, hb, BitVec.extractLsb'_append_eq_right, BitVec.extractLsb'_append_eq_left,
      classify_operandV_32, operand32_and_0xFFFFFFFF]
  | classifyW64 x0 x1 =>
    cases hx
    have hsel : s.wsel = 1#2 := by simpa [State.wselRead, hop, Instr.request] using hw.symm
    have hb : s.bitsRead = 0#64 ++ s.x0 := by simp [State.bitsRead, hop, hsel, Instr.request]
    simp only [responseOf, Instr.withOperands, hb, BitVec.extractLsb'_append_eq_right, BitVec.extractLsb'_append_eq_left,
      classify_operandV_64]
  | classifyW80 x0 x1 =>
    cases hx
    have hsel : s.wsel = 2#2 := by simpa [State.wselRead, hop, Instr.request] using hw.symm
    have hb : s.bitsRead = (s.x1 &&& 0xFFFF#64) ++ s.x0 := by simp [State.bitsRead, hop, hsel, Instr.request]
    simp only [responseOf, Instr.withOperands, hb, BitVec.extractLsb'_append_eq_right, BitVec.extractLsb'_append_eq_left,
      classify_operandV_80, extractLsb'_and_0xFFFF]
  | classifyW128 x0 x1 =>
    cases hx
    have hsel : s.wsel = 3#2 := by simpa [State.wselRead, hop, Instr.request] using hw.symm
    have hb : s.bitsRead = s.x1 ++ s.x0 := by simp [State.bitsRead, hop, hsel, Instr.request]
    simp only [responseOf, Instr.withOperands, hb, BitVec.extractLsb'_append_eq_right, BitVec.extractLsb'_append_eq_left]

end Machine

end Sys2Proof
end

section
/-! The statements of 30_encoding, from the facts above about the decoder, the encoder and the operand bits. -/

namespace Sys2Proof.Machine

/-- Settles O1: the fields are read back as they were put together, and each row's codes select the row. -/
theorem decodeEncodeRoundTrip : Obligations.DecodeEncodeRoundTrip := by
  intro i
  rw [encode, decode_toBits, Request.decode_request]

/-- Settles O2: the operation's request is the word's fields with an ignored `WSEL` cleared. -/
theorem encodeOfDecodedClearsIgnoredWsel : Obligations.EncodeOfDecodedClearsIgnoredWsel := by
  intro b i h
  rw [encode, Request.decode_eq_ok_iff.mp h, Request.toBits_clearIgnoredWsel]

/-- Settles O3: both a decoded word and a row that matches fix the codes and the operand words of the operation. -/
theorem opcodeMapSelectsTheOperation : Obligations.OpcodeMapSelectsTheOperation := by
  intro b
  refine ⟨fun i => ?_, Request.decode_eq_error_iff⟩
  rw [decode, Request.decode_eq_ok_iff, Instr.request_eq_clearIgnoredWsel_iff, ← Request.cmd_ofBits,
    Instr.cmd_and_mask_eq_pattern_iff]
  rfl

/-- Settles O36: both blocks answer as to the bits that the operation reads, and these are the same. -/
theorem ignoredFieldsDoNotMatter : Obligations.IgnoredFieldsDoNotMatter := by
  intro s s' h7 hl hh hop hw hb
  obtain ⟨i, hd, hi⟩ := exists_decode_req h7
  obtain ⟨j, hd', hj⟩ := exists_decode_req (hop ▸ h7)
  have hijw : i.request.wsel = j.request.wsel := by rw [wsel_eq_wselRead hd, wsel_eq_wselRead hd', hw]
  have hijop : i.request.op = j.request.op := by rw [← hi, ← hj, hop]
  have hp : s.straps = s'.straps := by rw [State.straps, State.straps, hl, hh]
  have hij : i.withOperands s.bitsRead = j.withOperands s'.bitsRead := hb ▸ Instr.withOperands_congr hijop hijw _
  have hresp : responseOf s.straps i = responseOf s'.straps j := by
    rw [← responseOf_withOperands_bitsRead hd, ← responseOf_withOperands_bitsRead hd', hij, hp]
  refine ⟨_, _, step_of_decode hd, step_of_decode hd', ?_⟩
  rw [hresp]
  exact respond_rsp _ _ _

/-- Settles O4: each word is put together from its four fields as 95 section 2.8 writes them, the last with an ignored
`WSEL = 3`. -/
theorem specWordsDecode : Obligations.SpecWordsDecode :=
  ⟨decode_toBits ⟨0, 0, 0x8000000000000000, 0xABCDEF0123453FFF⟩,
    decode_toBits ⟨1, 0, 0x3FFF800000000000, 0⟩,
    decode_toBits ⟨2, 0, 0x42F6E979, 0⟩,
    decode_toBits ⟨5, 0, 0x40B62E0328B6D86F, 0⟩,
    decode_toBits ⟨6, 2, 0x8000000000000000, 0xABCDEF0123453FFF⟩,
    decode_toBits ⟨0, 3, 0x8000000000000000, 0xABCDEF0123453FFF⟩⟩

/-- Settles O6: the decoder rejects the reserved code alone, and a step completes whatever decodes. -/
theorem onlyTheReservedCodeIsRefused : Obligations.OnlyTheReservedCodeIsRefused := by
  refine fun s => ⟨fun h => ?_, fun h => ⟨_, step_eq_next_settle h⟩⟩
  have hd : decode s.req = .error .reservedOperation := (decode_req s).trans (Request.decode_eq_error_iff.mpr h)
  exact ⟨hd, step_of_reject hd⟩

end Sys2Proof.Machine
end

section
/-! SUPPORT. Where the fields of a pattern lie: in the two words of an operand, and in a pattern put together from fields
(30_encoding R53 to R57). -/

namespace Sys2Proof.Machine

/-- A field inside a range of zeros is zero. -/
theorem extractLsb'_eq_zero_of_le {w start len n : Nat} {v : BitVec w} (h : v.extractLsb' 0 n = 0#n)
    (hle : start + len ≤ n) : v.extractLsb' start len = 0#len := by
  rw [← BitVec.extractLsb'_extractLsb'_of_le hle, h, BitVec.extractLsb'_zero]

/-- The same for a field of the lowest `m` bits. -/
theorem extractLsb'_extractLsb'_eq_zero_of_le {w start len m n : Nat} {v : BitVec w} (h : v.extractLsb' 0 n = 0#n)
    (hm : start + len ≤ m) (hn : start + len ≤ n) : (v.extractLsb' 0 m).extractLsb' start len = 0#len := by
  rw [BitVec.extractLsb'_extractLsb'_of_le hm, extractLsb'_eq_zero_of_le h hn]

/-- A pattern in two parts is zero where both parts are. -/
theorem append_eq_zero_iff {m n : Nat} {x : BitVec m} {y : BitVec n} :
    x ++ y = 0#(m + n) ↔ x = 0#m ∧ y = 0#n := by
  constructor
  · intro h
    have hx : (x ++ y).extractLsb' n m = 0#m := by rw [h, BitVec.extractLsb'_zero]
    have hy : (x ++ y).extractLsb' 0 n = 0#n := by rw [h, BitVec.extractLsb'_zero]
    rw [BitVec.extractLsb'_append_eq_left] at hx
    rw [BitVec.extractLsb'_append_eq_right] at hy
    exact ⟨hx, hy⟩
  · rintro ⟨rfl, rfl⟩
    exact BitVec.zero_append_zero

theorem quadExp_append (hi lo : Word) : quadExp (hi ++ lo) = hi.extractLsb' 48 15 :=
  BitVec.extractLsb'_append_eq_of_le (by decide)

theorem quadFrac_append (hi lo : Word) : quadFrac (hi ++ lo) = hi.extractLsb' 0 48 ++ lo := by
  have hsplit : (hi ++ lo).extractLsb' 64 48 ++ (hi ++ lo).extractLsb' 0 64 = (hi ++ lo).extractLsb' 0 112 :=
    BitVec.extractLsb'_append_extractLsb'_eq_extractLsb' (by decide)
  have hhi : (hi ++ lo).extractLsb' 64 48 = hi.extractLsb' 0 48 := BitVec.extractLsb'_append_eq_of_le (by decide)
  rw [hhi, BitVec.extractLsb'_append_eq_right] at hsplit
  exact hsplit.symm

theorem x87Sign_append (h : BitVec 16) (l : Word) : x87Sign (h ++ l) = h.extractLsb' 15 1 :=
  BitVec.extractLsb'_append_eq_of_le (by decide)

theorem x87Exp_append (h : BitVec 16) (l : Word) : x87Exp (h ++ l) = h.extractLsb' 0 15 :=
  BitVec.extractLsb'_append_eq_of_le (by decide)

theorem x87Int_append (h : BitVec 16) (l : Word) : x87Int (h ++ l) = l.extractLsb' 63 1 :=
  BitVec.extractLsb'_append_eq_of_add_le (by decide)

theorem x87Frac_append (h : BitVec 16) (l : Word) : x87Frac (h ++ l) = l.extractLsb' 0 63 :=
  BitVec.extractLsb'_append_eq_of_add_le (by decide)

/-- The x87 pattern with the given sign, exponent field, integer bit and lower significand (30_encoding R55). -/
def x87OfFields (s : BitVec 1) (e : BitVec 15) (j : BitVec 1) (m : BitVec 63) : BitVec 80 := (s ++ e) ++ (j ++ m)

@[simp] theorem x87Sign_x87OfFields (s : BitVec 1) (e : BitVec 15) (j : BitVec 1) (m : BitVec 63) :
    x87Sign (x87OfFields s e j m) = s :=
  (x87Sign_append _ _).trans BitVec.extractLsb'_append_eq_left

@[simp] theorem x87Exp_x87OfFields (s : BitVec 1) (e : BitVec 15) (j : BitVec 1) (m : BitVec 63) :
    x87Exp (x87OfFields s e j m) = e :=
  (x87Exp_append _ _).trans BitVec.extractLsb'_append_eq_right

@[simp] theorem x87Int_x87OfFields (s : BitVec 1) (e : BitVec 15) (j : BitVec 1) (m : BitVec 63) :
    x87Int (x87OfFields s e j m) = j :=
  (x87Int_append _ _).trans BitVec.extractLsb'_append_eq_left

@[simp] theorem x87Frac_x87OfFields (s : BitVec 1) (e : BitVec 15) (j : BitVec 1) (m : BitVec 63) :
    x87Frac (x87OfFields s e j m) = m :=
  (x87Frac_append _ _).trans BitVec.extractLsb'_append_eq_right

/-- An x87 pattern is put together again from its fields. -/
@[simp] theorem x87OfFields_fields (v : BitVec 80) :
    x87OfFields (x87Sign v) (x87Exp v) (x87Int v) (x87Frac v) = v := by
  have hhi : x87Sign v ++ x87Exp v = v.extractLsb' 64 16 :=
    BitVec.extractLsb'_append_extractLsb'_eq_extractLsb' (by decide)
  have hlo : x87Int v ++ x87Frac v = v.extractLsb' 0 64 :=
    BitVec.extractLsb'_append_extractLsb'_eq_extractLsb' (by decide)
  rw [x87OfFields, hhi, hlo]
  exact BitVec.extractLsb'_append_extractLsb'

/-- The shuffle of the encoder puts its exponent field where the portable format has it (41 R72). -/
@[simp] theorem quadExp_encShuffle_value (d : Word) (e : BitVec 15) : quadExp (encShuffle d e).value = e :=
  (quadExp_append _ _).trans
    ((BitVec.extractLsb'_append_eq_of_le (by decide)).trans BitVec.extractLsb'_append_eq_right)

/-- The shuffle of the encoder puts the fraction of the double on top of 60 zeros (41 R72). -/
@[simp] theorem quadFrac_encShuffle_value (d : Word) (e : BitVec 15) :
    quadFrac (encShuffle d e).value = doubleFrac d ++ 0#60 := by
  have hhi : (encShuffle d e).hi.extractLsb' 0 48 = (doubleFrac d).extractLsb' 4 48 :=
    BitVec.extractLsb'_append_eq_right
  have hfrac : (doubleFrac d).extractLsb' 4 48 ++ (doubleFrac d).extractLsb' 0 4 = doubleFrac d :=
    BitVec.extractLsb'_append_extractLsb'
  have hlo : (encShuffle d e).lo = (doubleFrac d).extractLsb' 0 4 ++ 0#60 := rfl
  rw [Limbs.value, quadFrac_append, hhi, hlo, BitVec.append_assoc', hfrac, BitVec.cast_eq]

/-- The re-bias addition does not wrap (41 R73, 44_properties R162). -/
theorem rebiasUp_toNat (e : BitVec 11) : (rebiasUp e).toNat = e.toNat + 15360 := by
  have he : e.toNat < 2048 := e.isLt
  have hmod : (rebiasUp e).toNat = (e.toNat % 32768 + 15360) % 32768 := by
    rw [rebiasUp, BitVec.toNat_add, BitVec.toNat_setWidth, Config.rebias, BitVec.toNat_ofNat]
  omega

/-- A re-biased exponent field is not the all-zeros one. -/
theorem rebiasUp_ne_zero (e : BitVec 11) : rebiasUp e ≠ 0#15 := by
  intro h
  have hn : (rebiasUp e).toNat = 0 := congrArg BitVec.toNat h
  rw [rebiasUp_toNat] at hn
  omega

/-- A re-biased exponent field is not the all-ones one. -/
theorem rebiasUp_ne_allOnes (e : BitVec 11) : rebiasUp e ≠ BitVec.allOnes 15 := by
  intro h
  have he : e.toNat < 2048 := e.isLt
  have hn : (rebiasUp e).toNat = 32767 := congrArg BitVec.toNat h
  rw [rebiasUp_toNat] at hn
  omega

end Sys2Proof.Machine
end

section
/-! SUPPORT. The classifier case by case: what it answers for each exponent field, and which bits it looks at (40_classifier
R60, R63, R65). -/

namespace Sys2Proof.Machine

@[simp] theorem clsIeee_zero {we wf : Nat} (f : BitVec wf) : clsIeee 0#we f = .denormal := if_pos rfl

theorem clsIeee_allOnes {we wf : Nat} (h : BitVec.allOnes we ≠ 0#we) (f : BitVec wf) :
    clsIeee (BitVec.allOnes we) f = if f = 0#wf then .infinity else .nan :=
  (if_neg h).trans (if_pos rfl)

theorem clsIeee_of_ne {we wf : Nat} {e : BitVec we} (h0 : e ≠ 0#we) (h1 : e ≠ BitVec.allOnes we) (f : BitVec wf) :
    clsIeee e f = .normal :=
  (if_neg h0).trans (if_neg h1)

/-- An all-ones exponent field is reserved for infinities and NaNs. -/
theorem clsIeee_allOnes_infinity_or_nan {we wf : Nat} (h : BitVec.allOnes we ≠ 0#we) (f : BitVec wf) :
    clsIeee (BitVec.allOnes we) f = .infinity ∨ clsIeee (BitVec.allOnes we) f = .nan := by
  rw [clsIeee_allOnes h]
  exact ite_eq_or_eq _ _ _

/-- The `CLS` code of the IEEE rule (40_classifier R65; 30_encoding R46). -/
theorem classCode_clsIeee {we wf : Nat} (e : BitVec we) (f : BitVec wf) :
    classCode (clsIeee e f) =
      if e = 0#we then 1 else if e = BitVec.allOnes we then (if f = 0#wf then 2 else 3) else 0 := by
  unfold clsIeee
  split_ifs <;> rfl

/-- The `CLS` code of the x87 rule (40_classifier R63; 30_encoding R46). -/
theorem classCode_classify80 (v : BitVec 80) :
    classCode (classify80 v) =
      if x87Exp v = 0#15 then 1 else if x87Int v = 0#1 then 4
      else if x87Exp v = 0x7FFF#15 then (if x87Frac v = 0#63 then 2 else 3) else 0 := by
  unfold classify80
  split_ifs <;> rfl

/-- A non-zero exponent field with a zero integer bit is what the x87 rule does not recognise (40_classifier R63). -/
theorem classify80_eq_unrecognized_iff (v : BitVec 80) :
    classify80 v = .unrecognized ↔ x87Exp v ≠ 0#15 ∧ x87Int v = 0#1 := by
  unfold classify80
  split_ifs <;> simp [*]

theorem classify_32 (v : Wide) : classify v 32 = classify32 (v.extractLsb' 0 32) := rfl
theorem classify_64 (v : Wide) : classify v 64 = classify64 (v.extractLsb' 0 64) := rfl
theorem classify_80 (v : Wide) : classify v 80 = classify80 (v.extractLsb' 0 80) := rfl
theorem classify_128 (v : Wide) : classify v 128 = classify128 v := rfl

/-- A width with no format has no recognised pattern (40_classifier R60). -/
theorem classify_of_other_width (v : Wide) {w : Nat} (h32 : w ≠ 32) (h64 : w ≠ 64) (h80 : w ≠ 80) (h128 : w ≠ 128) :
    classify v w = .unrecognized := by
  rw [classify, if_neg h32, if_neg h64, if_neg h80, if_neg h128]

/-- A double in a 128-bit pattern is classed as the double. -/
@[simp] theorem classify_setWidth_64 (d : Word) : classify (d.setWidth 128) 64 = classify64 d := by
  rw [classify_64, BitVec.extractLsb'_setWidth_of_le (by decide), BitVec.extractLsb'_eq_self]

/-- The classifier looks at the lowest `w` bits alone (40_classifier R60). -/
theorem classify_congr {v v' : Wide} {w : Nat} (h : v.extractLsb' 0 w = v'.extractLsb' 0 w) :
    classify v w = classify v' w := by
  by_cases h32 : w = 32
  · subst h32
    rw [classify_32, classify_32, h]
  by_cases h64 : w = 64
  · subst h64
    rw [classify_64, classify_64, h]
  by_cases h80 : w = 80
  · subst h80
    rw [classify_80, classify_80, h]
  by_cases h128 : w = 128
  · subst h128
    rw [BitVec.extractLsb'_eq_self, BitVec.extractLsb'_eq_self] at h
    rw [h]
  · rw [classify_of_other_width v h32 h64 h80 h128, classify_of_other_width v' h32 h64 h80 h128]

end Sys2Proof.Machine
end

section
/-! SUPPORT. The class of a double through the encoder: the exponent field that the encoder chooses keeps it (40_classifier
R60; 41_encode_extended R73 to R75). -/

namespace Sys2Proof.Machine

/-- The portable exponent field that `ENCX` makes of the exponent field of a double (41 R73 to R75). -/
def portableExp (e : BitVec 11) : BitVec 15 :=
  if e = 0#11 then 0#15 else if e = 0x7FF#11 then 0x7FFF#15 else rebiasUp e

/-- With the default classifier the encoder of doubles is one shuffle, its exponent field read off the double's. -/
theorem encDouble_classify (d : Word) : encDouble classify d = .ok (encShuffle d (portableExp (doubleExp d))) := by
  unfold encDouble
  rw [classify_setWidth_64, classify64, portableExp]
  by_cases h0 : doubleExp d = 0#11
  · rw [if_pos h0, h0, clsIeee_zero]
  · rw [if_neg h0]
    by_cases h1 : doubleExp d = 0x7FF#11
    · have hones : clsIeee 0x7FF#11 (doubleFrac d) = .infinity ∨ clsIeee 0x7FF#11 (doubleFrac d) = .nan :=
        clsIeee_allOnes_infinity_or_nan (by decide) _
      rw [if_pos h1, h1]
      obtain hc | hc := hones <;> rw [hc]
    · rw [if_neg h1, clsIeee_of_ne h0 h1]

/-- The portable exponent field of a double is reserved where the double's is, so the class is kept. -/
theorem clsIeee_portableExp (e : BitVec 11) (f : BitVec 52) :
    clsIeee (portableExp e) (f ++ 0#60) = clsIeee e f := by
  unfold portableExp
  by_cases h0 : e = 0#11
  · rw [if_pos h0, h0, clsIeee_zero, clsIeee_zero]
  · rw [if_neg h0]
    by_cases h1 : e = 0x7FF#11
    · have hf : f ++ 0#60 = 0#112 ↔ f = 0#52 := append_eq_zero_iff.trans (and_iff_left rfl)
      calc clsIeee (if e = 0x7FF#11 then 0x7FFF#15 else rebiasUp e) (f ++ 0#60)
        _ = clsIeee (BitVec.allOnes 15) (f ++ 0#60) := by rw [if_pos h1]; rfl
        _ = clsIeee (BitVec.allOnes 11) f := by
          rw [clsIeee_allOnes (by decide), clsIeee_allOnes (by decide)]
          exact if_congr hf rfl rfl
        _ = clsIeee e f := by rw [h1]; rfl
    · rw [if_neg h1, clsIeee_of_ne h0 h1, clsIeee_of_ne (rebiasUp_ne_zero e) (rebiasUp_ne_allOnes e)]

/-- The portable value that the encoder makes of a double has the double's class (40_classifier R60, P4). -/
theorem classify128_of_encDouble {d : Word} {l : Limbs} (h : encDouble classify d = .ok l) :
    classify128 l.value = classify64 d := by
  rw [encDouble_classify] at h
  cases h
  rw [classify128, quadExp_encShuffle_value, quadFrac_encShuffle_value, clsIeee_portableExp, classify64]

end Sys2Proof.Machine
end

section
/-! SUPPORT. The default classifier has the properties that the spec asks of any classifier (40_classifier R60). -/

namespace Sys2Proof.Machine

/-- P1 is that the lowest bits alone are looked at, P2 and P3 are the cases of the IEEE rule, P4 is that the encoder keeps
the class. -/
theorem classify_admissible : AdmissibleClassifier classify where
  low_bits v v' w h := classify_congr (BitVec.eq_of_getLsbD_eq fun i hi => by simp [h i hi])
  zeros64 d h := by rw [classify_setWidth_64, classify64, h, clsIeee_zero]
  ones64 d h := by
    rw [classify_setWidth_64, classify64, h]
    exact clsIeee_allOnes_infinity_or_nan (by decide) _
  other64 d h0 h1 := by rw [classify_setWidth_64, classify64, clsIeee_of_ne h0 h1]
  zeros128 p h := by rw [classify_128, classify128, h, clsIeee_zero]
  ones128 p h := by
    rw [classify_128, classify128, h]
    exact clsIeee_allOnes_infinity_or_nan (by decide) _
  other128 p h0 h1 := by rw [classify_128, classify128, clsIeee_of_ne h0 h1]
  total64 d := classify_64_ne_unrecognized _
  total128 := classify_128_ne_unrecognized
  class_kept d l h := by rw [classify_128, classify_setWidth_64, classify128_of_encDouble h]

end Sys2Proof.Machine
end

section
/-! SUPPORT. What `CLASSIFY` leaves (30_encoding R45, R46). -/

namespace Sys2Proof.Machine

/-- The whole next state of an operation that answers a class: only the code of the class is its own (30_encoding R45,
R46). -/
theorem exec_of_verdict {i : Instr} {s : State} {c : ValueClass} {code : BitVec 3}
    (hi : responseOf s.straps i = .ok (.verdict c)) (hc : classCode c = code) :
    exec i s = .next { s with y0 := 0, y1 := 0, err := 0, cls := code } := by
  rw [exec_eq_respond, hi, respond_verdict, State.answerClass, hc]

end Sys2Proof.Machine
end

section
/-! SUPPORT. The number of the x87 patterns that the classifier does not recognise (40_classifier R68). -/

namespace Sys2Proof.Machine

/-- An unrecognised pattern is a sign, a non-zero exponent field and a lower significand, its integer bit being zero. -/
def unrecognizedEquiv :
    { v : BitVec 80 // classify80 v = .unrecognized } ≃ BitVec 1 × { e : BitVec 15 // e ≠ 0#15 } × BitVec 63 where
  toFun v := (x87Sign v, ⟨x87Exp v, ((classify80_eq_unrecognized_iff v).mp v.2).1⟩, x87Frac v)
  invFun p := ⟨x87OfFields p.1 p.2.1 0#1 p.2.2, by simp [classify80_eq_unrecognized_iff, p.2.1.2]⟩
  left_inv v := by
    obtain ⟨v, hv⟩ := v
    have hj : x87Int v = 0#1 := ((classify80_eq_unrecognized_iff v).mp hv).2
    have hfields := x87OfFields_fields v
    rw [hj] at hfields
    exact Subtype.ext hfields
  right_inv p := by simp

theorem card_bitVec (n : Nat) : Nat.card (BitVec n) = 2 ^ n :=
  (Nat.card_congr BitVec.equivFin.toEquiv).trans (Nat.card_fin _)

/-- One pattern of a field is zero. -/
theorem card_bitVec_ne_zero (n : Nat) : Nat.card { e : BitVec n // e ≠ 0#n } = 2 ^ n - 1 := by
  have h : Nat.card { e : BitVec n // e ≠ 0#n } + 1 = 2 ^ n := by
    rw [← Finite.card_option, Nat.card_congr (Equiv.optionSubtypeNe 0#n), card_bitVec]
  omega

theorem card_unrecognized : Nat.card { v : BitVec 80 // classify80 v = .unrecognized } = 2 * 32767 * 2 ^ 63 := by
  rw [Nat.card_congr unrecognizedEquiv, Nat.card_prod, Nat.card_prod, card_bitVec, card_bitVec, card_bitVec_ne_zero]
  norm_num

end Sys2Proof.Machine
end

section
/-! The statements of 40_classifier, from the facts above about the classifier. -/

namespace Sys2Proof.Machine

/-- Settles O12: the IEEE rule always recognises, and the x87 rule leaves the patterns counted above. -/
theorem unrecognizedOnlyAtWidth80 : Obligations.UnrecognizedOnlyAtWidth80 := by
  refine ⟨fun v => ⟨clsIeee_ne_unrecognized _ _, classify_64_ne_unrecognized v, classify_128_ne_unrecognized v, ?_⟩,
    card_unrecognized⟩
  have he : x87Exp (v.extractLsb' 0 80) = v.extractLsb' 64 15 := BitVec.extractLsb'_extractLsb'_of_le (by decide)
  have hj : x87Int (v.extractLsb' 0 80) = v.extractLsb' 63 1 := BitVec.extractLsb'_extractLsb'_of_le (by decide)
  rw [classify_80, classify80_eq_unrecognized_iff, he, hj]

/-- Settles O13: the properties P1 to P4 stand above, and no other width has a format. -/
theorem defaultClassifierIsAdmissible : Obligations.DefaultClassifierIsAdmissible :=
  ⟨classify_admissible, fun v _ => classify_of_other_width v⟩

/-- Settles O7, by the IEEE rule on the fields of the lower half of `X0`. -/
theorem classifyW32Result : Obligations.ClassifyW32Result := by
  intro x0 x1 s e f
  have he : singleExp (operand32 x0) = e := BitVec.extractLsb'_extractLsb'_of_le (by decide)
  have hf : singleFrac (operand32 x0) = f := BitVec.extractLsb'_extractLsb'_of_le (by decide)
  refine exec_of_verdict rfl ?_
  rw [classify_operandV_32, classify32, he, hf]
  exact classCode_clsIeee e f

/-- Settles O8, by the IEEE rule on the fields of `X0`. -/
theorem classifyW64Result : Obligations.ClassifyW64Result := by
  intro x0 x1 s e f
  refine exec_of_verdict rfl ?_
  rw [classify_operandV_64]
  exact classCode_clsIeee e f

/-- Settles O9, by the x87 rule on the fields of `X1[15:0] ∥ X0`. -/
theorem classifyW80Result : Obligations.ClassifyW80Result := by
  intro x0 x1 s e j m
  have he : (x1.extractLsb' 0 16).extractLsb' 0 15 = e := BitVec.extractLsb'_extractLsb'_of_le (by decide)
  refine exec_of_verdict rfl ?_
  rw [classify_operandV_80, classCode_classify80, x87Exp_append, x87Int_append, x87Frac_append, he]

/-- Settles O10, by the IEEE rule: the fraction field is the lower part of `X1` with the whole of `X0`. -/
theorem classifyW128Result : Obligations.ClassifyW128Result := by
  intro x0 x1 s e
  have hf : x1.extractLsb' 0 48 ++ x0 = 0#112 ↔ x1.extractLsb' 0 48 = 0#48 ∧ x0 = 0#64 := append_eq_zero_iff
  refine exec_of_verdict rfl ?_
  rw [classify_128, classify128, operandV, quadExp_append, quadFrac_append, classCode_clsIeee]
  simp only [hf]
  rfl

/-- Settles O11: the exponent field lies among the zeros, and that decides. -/
theorem zeroIsDenormalAtEveryWidth : Obligations.ZeroIsDenormalAtEveryWidth := by
  refine fun v => ⟨fun h => ?_, fun h => ?_, fun h => ?_, fun h => ?_⟩
  · have he : singleExp (v.extractLsb' 0 32) = 0#8 := extractLsb'_extractLsb'_eq_zero_of_le h (by decide) (by decide)
    rw [classify_32, classify32, he, clsIeee_zero]
  · have he : doubleExp (v.extractLsb' 0 64) = 0#11 := extractLsb'_extractLsb'_eq_zero_of_le h (by decide) (by decide)
    rw [classify_64, classify64, he, clsIeee_zero]
  · have he : x87Exp (v.extractLsb' 0 80) = 0#15 := extractLsb'_extractLsb'_eq_zero_of_le h (by decide) (by decide)
    rw [classify_80, classify80, if_pos he]
  · have he : quadExp v = 0#15 := extractLsb'_eq_zero_of_le h (by decide)
    rw [classify_128, classify128, he, clsIeee_zero]

end Sys2Proof.Machine
end

section
/-! SUPPORT. The cells of the encoder as 128-bit values, for any classifier, with what the statements
need about their parts (41_encode_extended R72 to R80). -/

namespace Sys2Proof.Machine

@[simp] theorem limbs_value_hi (l : Limbs) : l.value.extractLsb' 64 64 = l.hi :=
  BitVec.extractLsb'_append_eq_left

@[simp] theorem limbs_value_lo (l : Limbs) : l.value.extractLsb' 0 64 = l.lo :=
  BitVec.extractLsb'_append_eq_right

/-- An x87 pattern in a 128-bit one is classed as the x87 pattern. -/
@[simp] theorem classify_setWidth_80 (v : BitVec 80) : classify (v.setWidth 128) 80 = classify80 v := by
  rw [classify_80, BitVec.extractLsb'_setWidth_of_le (by decide), BitVec.extractLsb'_eq_self]

/-- The re-bias addition as a number (41 R73). -/
theorem rebiasUp_eq_ofNat (e : BitVec 11) : rebiasUp e = BitVec.ofNat 15 (e.toNat + 15360) := by
  rw [← rebiasUp_toNat, BitVec.ofNat_toNat, BitVec.setWidth_eq]

/-- The shuffle of the encoder as one value: `P = s ∥ E ∥ f ∥ 0^60` (41 R72). -/
theorem encShuffle_value (d : Word) (e : BitVec 15) :
    (encShuffle d e).value = doubleSign d ++ e ++ doubleFrac d ++ 0#60 := by
  have hfrac : (doubleFrac d).extractLsb' 4 48 ++ (doubleFrac d).extractLsb' 0 4 = doubleFrac d :=
    BitVec.extractLsb'_append_extractLsb'
  calc (encShuffle d e).value
    _ = (encShuffle d e).hi ++ (doubleFrac d).extractLsb' 0 4 ++ 0#60 := BitVec.append_assoc'.trans (BitVec.cast_eq _ _)
    _ = doubleSign d ++ e ++ ((doubleFrac d).extractLsb' 4 48 ++ (doubleFrac d).extractLsb' 0 4) ++ 0#60 :=
      congrArg (· ++ 0#60) (BitVec.append_assoc.trans (BitVec.cast_eq _ _))
    _ = doubleSign d ++ e ++ doubleFrac d ++ 0#60 := by rw [hfrac]

/-- The shuffle of the encoder keeps the sign (41 R72). -/
@[simp] theorem quadSign_encShuffle_value (d : Word) (e : BitVec 15) :
    quadSign (encShuffle d e).value = doubleSign d := by
  have hhi : quadSign (encShuffle d e).value = (encShuffle d e).hi.extractLsb' 63 1 :=
    BitVec.extractLsb'_append_eq_of_le (by decide)
  have htop : (encShuffle d e).hi.extractLsb' 63 1 = (doubleSign d ++ e).extractLsb' 15 1 :=
    BitVec.extractLsb'_append_eq_of_le (by decide)
  rw [hhi, htop]
  exact BitVec.extractLsb'_append_eq_left

/-- The x87 transform as one value: the 80 meaningful bits on top of 48 zeros (41 R77). -/
theorem x87Limbs_value (n : Halves) :
    ({ hi := (n.nh <<< 48) ||| (n.nl >>> 16), lo := n.nl <<< 48 } : Limbs).value = meaningful80 n ++ 0#48 := by
  have hleft (x : Word) : x <<< 48 = x.extractLsb' 0 16 ++ 0#48 :=
    (BitVec.shiftLeft_eq_concat_of_lt (by decide)).trans (BitVec.cast_eq _ _)
  have hright : n.nl >>> 16 = 0#16 ++ n.nl.extractLsb' 16 48 :=
    (BitVec.ushiftRight_eq_extractLsb'_of_lt (by decide)).trans (BitVec.cast_eq _ _)
  have hhi : (n.nh <<< 48) ||| (n.nl >>> 16) = n.nh.extractLsb' 0 16 ++ n.nl.extractLsb' 16 48 := by
    rw [hleft, hright, BitVec.or_append, BitVec.or_zero, BitVec.zero_or]
  have hnl : n.nl.extractLsb' 16 48 ++ n.nl.extractLsb' 0 16 = n.nl := BitVec.extractLsb'_append_extractLsb'
  rw [hhi, hleft, Limbs.value]
  calc n.nh.extractLsb' 0 16 ++ n.nl.extractLsb' 16 48 ++ (n.nl.extractLsb' 0 16 ++ 0#48)
    _ = n.nh.extractLsb' 0 16 ++ n.nl.extractLsb' 16 48 ++ n.nl.extractLsb' 0 16 ++ 0#48 :=
      BitVec.append_assoc'.trans (BitVec.cast_eq _ _)
    _ = n.nh.extractLsb' 0 16 ++ (n.nl.extractLsb' 16 48 ++ n.nl.extractLsb' 0 16) ++ 0#48 :=
      congrArg (· ++ 0#48) (BitVec.append_assoc.trans (BitVec.cast_eq _ _))
    _ = meaningful80 n ++ 0#48 := by rw [hnl, meaningful80]

section
variable {K : Classifier} {d : Word} {n : Halves}

/-- The cell of a normal double (41 R73). -/
theorem encDouble_of_normal (h : K (d.setWidth 128) 64 = .normal) :
    encDouble K d = .ok (encShuffle d (rebiasUp (doubleExp d))) := by
  rw [encDouble, h]

/-- The cell of a zero or subnormal double (41 R74). -/
theorem encDouble_of_denormal (h : K (d.setWidth 128) 64 = .denormal) : encDouble K d = .ok (encShuffle d 0#15) := by
  rw [encDouble, h]

/-- The cells of an infinity and of a NaN (41 R75). -/
theorem encDouble_of_infinity_or_nan (h : K (d.setWidth 128) 64 = .infinity ∨ K (d.setWidth 128) 64 = .nan) :
    encDouble K d = .ok (encShuffle d 0x7FFF#15) := by
  rw [encDouble]
  obtain h | h := h <;> rw [h]

/-- The cell that the default classifier never reaches (41 R76). -/
theorem encDouble_of_unrecognized (h : K (d.setWidth 128) 64 = .unrecognized) :
    encDouble K d = .error .unknownFloatPattern := by
  rw [encDouble, h]

/-- The x87 encoder rejects what the classifier does not recognise (41 R77). -/
theorem encX87_of_unrecognized (h : K ((meaningful80 n).setWidth 128) 80 = .unrecognized) :
    encX87 K n = .error .unknownFloatPattern := by
  rw [encX87, h]

/-- The x87 encoder has one transform for every class that the classifier recognises (41 R77). -/
theorem encX87_of_recognized (h : K ((meaningful80 n).setWidth 128) 80 ≠ .unrecognized) :
    ∃ l, encX87 K n = .ok l ∧ l.value = meaningful80 n ++ 0#48 := by
  refine ⟨_, ?_, x87Limbs_value n⟩
  rw [encX87]
  cases hc : K ((meaningful80 n).setWidth 128) 80 with
  | unrecognized => exact absurd hc h
  | normal | denormal | infinity | nan => rfl

/-- The quad encoder rejects what the classifier does not recognise (41 R79). -/
theorem encQuad_of_unrecognized (h : K n.value 128 = .unrecognized) : encQuad K n = .error .unknownFloatPattern := by
  rw [encQuad, h]

/-- The quad encoder passes the halves through for every class that the classifier recognises (41 R79). -/
theorem encQuad_of_recognized (h : K n.value 128 ≠ .unrecognized) : encQuad K n = .ok { hi := n.nh, lo := n.nl } := by
  rw [encQuad]
  cases hc : K n.value 128 with
  | unrecognized => exact absurd hc h
  | normal | denormal | infinity | nan => rfl

end

section
variable (K : Classifier) (h : Bool) (w : StorageWords)

/-! The encoder under each layout (41 R71, R80). -/

theorem encodeExtended_doubleAlias :
    encodeExtended K { layout := .doubleAlias, hostLE := h } w = encDouble K w.w0 := rfl

theorem encodeExtended_x87In16 :
    encodeExtended K { layout := .x87In16, hostLE := h } w = encX87 K (natSplit h w) := rfl

theorem encodeExtended_quad : encodeExtended K { layout := .quad, hostLE := h } w = encQuad K (natSplit h w) := rfl

theorem encodeExtended_none :
    encodeExtended K { layout := .none, hostLE := h } w = .error .unsupportedLongDoubleLayout := rfl

end

/-- The encoder's answer as one value, from its limbs. -/
theorem portableOf_of_ok {K : Classifier} {p : Straps} {w : StorageWords} {l : Limbs}
    (h : encodeExtended K p w = .ok l) : portableOf K p w = .ok l.value := by
  rw [portableOf, h]
  rfl

/-- An error of the encoder gives no value. -/
theorem portableOf_of_error {K : Classifier} {p : Straps} {w : StorageWords} {k : ErrorKind}
    (h : encodeExtended K p w = .error k) : portableOf K p w = .error k := by
  rw [portableOf, h]
  rfl

end Sys2Proof.Machine
end

section
/-! SUPPORT. What `ENCX` and `DECX` leave on the ports, and the straps they read (10_state R16, R17; 41_encode_extended R70,
R81; 42_decode_extended R90). -/

namespace Sys2Proof.Machine

/-- The straps of a block whose `LAYOUT` code is known (10_state R16, R17). -/
theorem straps_of_layout {s : State} (L : Layout) (h : s.layout = layoutCode L) :
    s.straps = { layout := L, hostLE := s.hostLE == 1#1 } := by
  rw [State.straps, h, layoutOfCode_layoutCode]

/-- The halves as the port `HOST_LE` orders the storage words (20_memory R31). -/
theorem natSplit_beq_one (h : BitVec 1) (w : StorageWords) :
    natSplit (h == 1#1) w = { nh := if h = 1#1 then w.w1 else w.w0, nl := if h = 1#1 then w.w0 else w.w1 } := by
  unfold natSplit
  by_cases hh : h = 1#1 <;> simp [hh]

/-- The whole next state of `ENCX` where the encoder gives limbs: HI in `Y0` and LO in `Y1`, on every host (41 R81). -/
theorem exec_encx_of_ok {x0 x1 : Word} {s : State} {l : Limbs}
    (h : encodeExtended classify s.straps { w0 := x0, w1 := x1 } = .ok l) :
    exec (.encx x0 x1) s = .next { s with y0 := l.hi, y1 := l.lo, cls := 0, err := 0 } := by
  rw [exec_eq_respond, responseOf, encxResponse, h]
  rfl

/-- The whole next state of `ENCX` where the encoder gives an error (60_exceptions R124). -/
theorem exec_encx_of_error {x0 x1 : Word} {s : State} {k : ErrorKind}
    (h : encodeExtended classify s.straps { w0 := x0, w1 := x1 } = .error k) :
    exec (.encx x0 x1) s = .next { s with y0 := 0, y1 := 0, cls := 0, err := errorCode k } := by
  rw [exec_eq_respond, responseOf, encxResponse, h]
  rfl

/-- The whole next state of `DECX` where the decoder gives an error (60_exceptions R124). -/
theorem exec_decx_of_error {x0 x1 : Word} {s : State} {k : ErrorKind}
    (h : decodeExtended classify s.straps { hi := x0, lo := x1 } = .error k) :
    exec (.decx x0 x1) s = .next { s with y0 := 0, y1 := 0, cls := 0, err := errorCode k } := by
  rw [exec_eq_respond, responseOf, decxResponse, h]
  rfl

end Sys2Proof.Machine
end

section
/-! The statements of 41_encode_extended about `ENCX` and about the encoder's table. -/

namespace Sys2Proof.Machine

/-- Settles O14: the encoder of doubles is one shuffle, and the shuffle is `s ∥ E ∥ f ∥ 0^60`. -/
theorem encxDoubleAliasResult : Obligations.EncxDoubleAliasResult := by
  intro x0 x1 s hL e E P
  have hE : portableExp e = E := by
    rw [portableExp, rebiasUp_eq_ofNat]
    rfl
  have hP : (encShuffle x0 (portableExp e)).value = P := by
    rw [encShuffle_value, hE]
    rfl
  have henc : encodeExtended classify s.straps { w0 := x0, w1 := x1 } = .ok (encShuffle x0 (portableExp e)) := by
    rw [straps_of_layout .doubleAlias hL, encodeExtended_doubleAlias]
    exact encDouble_classify x0
  rw [exec_encx_of_ok henc, ← hP, limbs_value_hi, limbs_value_lo]

/-- Settles O15, by whether the classifier recognises the 80 meaningful bits. -/
theorem encxX87Result : Obligations.EncxX87Result := by
  intro x0 x1 s hL se sig V80 P
  have henc : encodeExtended classify s.straps { w0 := x0, w1 := x1 } = encX87 classify { nh := se, nl := sig } := by
    rw [straps_of_layout .x87In16 hL, encodeExtended_x87In16, natSplit_beq_one]
  have hclass : classify ((meaningful80 { nh := se, nl := sig }).setWidth 128) 80 = classify80 V80 :=
    classify_setWidth_80 V80
  by_cases hc : classify80 V80 = .unrecognized
  · have herr := encX87_of_unrecognized (hclass.trans hc)
    rw [if_pos hc, exec_encx_of_error (henc.trans herr)]
    rfl
  · obtain ⟨l, hl, hP⟩ := encX87_of_recognized (hclass.symm ▸ hc)
    have hP : l.value = P := hP
    rw [if_neg hc, exec_encx_of_ok (henc.trans hl), ← hP, limbs_value_hi, limbs_value_lo]

/-- Settles O18, one cell of the table after the other. -/
theorem encodeTableForEveryClassifier : Obligations.EncodeTableForEveryClassifier := by
  intro K h w c n V80 double
  have hdouble (E : BitVec 15) (henc : encDouble K w.w0 = .ok (encShuffle w.w0 E)) :
      portableOf K { layout := .doubleAlias, hostLE := h } w = .ok (double E) :=
    (portableOf_of_ok ((encodeExtended_doubleAlias K h w).trans henc)).trans
      (congrArg Except.ok (encShuffle_value w.w0 E))
  refine ⟨fun hc => hdouble _ (encDouble_of_normal hc), fun hc => hdouble _ (encDouble_of_denormal hc),
    fun hc => hdouble _ (encDouble_of_infinity_or_nan hc),
    fun hc => portableOf_of_error ((encodeExtended_doubleAlias K h w).trans (encDouble_of_unrecognized hc)),
    ?x87, ?quad, portableOf_of_error (encodeExtended_none K h w)⟩
  case x87 =>
    have hlayout := encodeExtended_x87In16 K h w
    by_cases hc : K (V80.setWidth 128) 80 = .unrecognized
    · rw [if_pos hc]
      exact portableOf_of_error (hlayout.trans (encX87_of_unrecognized hc))
    · obtain ⟨l, hl, hP⟩ := encX87_of_recognized hc
      rw [if_neg hc, portableOf_of_ok (hlayout.trans hl), hP]
      rfl
  case quad =>
    have hlayout := encodeExtended_quad K h w
    by_cases hc : K n.value 128 = .unrecognized
    · exact (portableOf_of_error (hlayout.trans (encQuad_of_unrecognized hc))).trans (if_pos hc).symm
    · exact (portableOf_of_ok (hlayout.trans (encQuad_of_recognized hc))).trans (if_neg hc).symm

/-- Settles O16: the default classifier recognises every pattern of 128 bits, so the halves pass through. -/
theorem encxQuadResult : Obligations.EncxQuadResult := by
  intro x0 x1 s hL
  have henc : encodeExtended classify s.straps { w0 := x0, w1 := x1 } =
      .ok { hi := if s.hostLE = 1#1 then x1 else x0, lo := if s.hostLE = 1#1 then x0 else x1 } := by
    rw [straps_of_layout .quad hL, encodeExtended_quad, natSplit_beq_one]
    exact encQuad_of_recognized (classify_128_ne_unrecognized _)
  exact exec_encx_of_ok henc

/-- Settles O17: both the encoder and the decoder test the layout before they look at the operands. -/
theorem extendedOperationsFailWithoutLayout : Obligations.ExtendedOperationsFailWithoutLayout := by
  intro x0 x1 s hL
  have hstraps := straps_of_layout .none hL
  have henc : encodeExtended classify s.straps { w0 := x0, w1 := x1 } = .error .unsupportedLongDoubleLayout := by
    rw [hstraps, encodeExtended_none]
  have hdec : decodeExtended classify s.straps { hi := x0, lo := x1 } = .error .unsupportedLongDoubleLayout :=
    decodeExtended_of_none classify (congrArg Straps.layout hstraps) _
  exact ⟨exec_encx_of_error henc, exec_decx_of_error hdec⟩

end Sys2Proof.Machine
end

section
/-! SUPPORT. The number a double denotes, before and after the encoder (41_encode_extended R73, R74; 44_properties, notation
of Part B), and the shuffle of the decoder over that of the encoder (42_decode_extended R92). -/

namespace Sys2Proof.Machine

/-- 60 more fraction bits, all zero, scale the fraction field with its denominator. -/
theorem append_zero_60_div (f : BitVec 52) : ((f ++ 0#60).toNat : ℚ) / 2 ^ 112 = (f.toNat : ℚ) / 2 ^ 52 := by
  have hnat : (f ++ 0#60).toNat = f.toNat * 2 ^ 60 := by
    rw [BitVec.toNat_append, BitVec.toNat_ofNat, Nat.zero_mod, Nat.or_zero, Nat.shiftLeft_eq]
  have hden : (2 : ℚ) ^ 112 = 2 ^ 52 * 2 ^ 60 := pow_add 2 52 60
  rw [hnat, Nat.cast_mul, Nat.cast_pow, Nat.cast_ofNat, hden, mul_div_mul_right _ _ (pow_ne_zero 60 two_ne_zero)]

/-- The re-bias moves the exponent field by as much as the bias, so a normal number stays the same (41 R73). -/
theorem normalValue_rebias (s : BitVec 1) (x : Nat) (f : BitVec 52) :
    normalValue s (x + 15360) Config.biasPortable (f ++ 0#60).toNat 112 =
      normalValue s x Config.biasDouble f.toNat 52 := by
  have hexp : ((x + 15360 : Nat) : ℤ) - (Config.biasPortable : ℤ) = (x : ℤ) - (Config.biasDouble : ℤ) := by
    simp only [Config.biasPortable, Config.biasDouble]
    omega
  rw [normalValue, normalValue, hexp, append_zero_60_div]

/-- Without a re-bias a subnormal number shrinks by the difference of the biases (41 R74). -/
theorem subnormalValue_rebias (s : BitVec 1) (f : BitVec 52) :
    subnormalValue s Config.biasDouble f.toNat 52 =
      subnormalValue s Config.biasPortable (f ++ 0#60).toNat 112 * 2 ^ 15360 := by
  have hexp : (2 : ℚ) ^ ((1 : ℤ) - (Config.biasDouble : ℤ)) =
      (2 : ℚ) ^ ((1 : ℤ) - (Config.biasPortable : ℤ)) * 2 ^ 15360 := by
    have hbias : (1 : ℤ) - (Config.biasDouble : ℤ) = 1 - (Config.biasPortable : ℤ) + (15360 : ℕ) := by decide
    rw [hbias, zpow_add₀ two_ne_zero, zpow_natCast]
  rw [subnormalValue, subnormalValue, hexp, append_zero_60_div, ← mul_assoc (signValue s), mul_right_comm]

section
variable {d : Word} {p : Wide}

theorem doubleValue_of_normal (h : classify64 d = .normal) : doubleValue d =
    some (normalValue (doubleSign d) (doubleExp d).toNat Config.biasDouble (doubleFrac d).toNat 52) := by
  rw [doubleValue, h]

theorem doubleValue_of_denormal (h : classify64 d = .denormal) :
    doubleValue d = some (subnormalValue (doubleSign d) Config.biasDouble (doubleFrac d).toNat 52) := by
  rw [doubleValue, h]

theorem quadValue_of_normal (h : classify128 p = .normal) : quadValue p =
    some (normalValue (quadSign p) (quadExp p).toNat Config.biasPortable (quadFrac p).toNat 112) := by
  rw [quadValue, h]

theorem quadValue_of_denormal (h : classify128 p = .denormal) :
    quadValue p = some (subnormalValue (quadSign p) Config.biasPortable (quadFrac p).toNat 112) := by
  rw [quadValue, h]

end

/-- A normal double has an exponent field that is neither of the two reserved ones (40_classifier R65). -/
theorem doubleExp_of_normal {d : Word} (h : classify64 d = .normal) :
    1 ≤ (doubleExp d).toNat ∧ (doubleExp d).toNat ≤ 2046 := by
  have h0 : doubleExp d ≠ 0#11 := by
    intro h0
    rw [classify64, h0, clsIeee_zero] at h
    cases h
  have h1 : doubleExp d ≠ 0x7FF#11 := by
    intro h1
    have hones : clsIeee 0x7FF#11 (doubleFrac d) = .infinity ∨ clsIeee 0x7FF#11 (doubleFrac d) = .nan :=
      clsIeee_allOnes_infinity_or_nan (by decide) _
    rw [classify64, h1] at h
    rw [h] at hones
    exact absurd hones (by decide)
  exact ⟨by bv_omega, by bv_omega⟩

theorem classify64_of_exp_zero {d : Word} (h : doubleExp d = 0#11) : classify64 d = .denormal := by
  rw [classify64, h, clsIeee_zero]

/-- A double is put together again from its fields (30_encoding R54). -/
theorem double_fields (d : Word) : doubleSign d ++ doubleExp d ++ doubleFrac d = d := by
  have hhi : doubleSign d ++ doubleExp d = d.extractLsb' 52 12 :=
    BitVec.extractLsb'_append_extractLsb'_eq_extractLsb' (by decide)
  rw [hhi]
  exact BitVec.extractLsb'_append_extractLsb'

/-- The shuffle of the decoder takes back that of the encoder, but for the exponent field (41 R72, 42 R92). -/
@[simp] theorem decShuffle_encShuffle (d : Word) (e : BitVec 15) (e' : BitVec 11) :
    decShuffle (encShuffle d e).value e' = doubleSign d ++ e' ++ doubleFrac d := by
  have hfrac : (doubleFrac d ++ 0#60).extractLsb' 60 52 = doubleFrac d := BitVec.extractLsb'_append_eq_left
  rw [decShuffle, quadSign_encShuffle_value, quadFrac_encShuffle_value, hfrac]

/-- Under `DoubleAlias` the decoder gives the double in the first word, and zero in the second (42 R92). -/
theorem decodeExtended_doubleAlias_of_ok {K : Classifier} {l : Limbs} {d : Word}
    (hd : decDouble l.value (K l.value 128) = .ok d) (h : Bool) :
    decodeExtended K { layout := .doubleAlias, hostLE := h } l = .ok { w0 := d, w1 := 0 } := by
  simp only [decodeExtended, hd]

/-- The encoder of doubles with a zero exponent field (41 R74). -/
theorem encDouble_of_exp_zero {d : Word} (h : doubleExp d = 0#11) : encDouble classify d = .ok (encShuffle d 0#15) :=
  encDouble_of_denormal ((classify_setWidth_64 d).trans (classify64_of_exp_zero h))

/-- A zero goes through the shuffle as a zero of the same sign (41 R74). -/
theorem encShuffle_of_frac_zero {d : Word} (h : doubleFrac d = 0#52) :
    encShuffle d 0#15 = { hi := doubleSign d ++ 0#63, lo := 0 } := by
  have hhi : doubleSign d ++ 0#15 ++ 0#48 = doubleSign d ++ 0#63 :=
    BitVec.append_assoc.trans (BitVec.cast_eq _ _)
  rw [encShuffle, h, BitVec.extractLsb'_zero, BitVec.extractLsb'_zero, hhi]
  rfl

end Sys2Proof.Machine
end

section
/-! The statements of 41_encode_extended about the number that a double denotes. -/

namespace Sys2Proof.Machine

/-- Settles O19: the encoder re-biases the exponent field, and the portable value keeps the class of the double. -/
theorem normalDoubleKeepsItsNumber : Obligations.NormalDoubleKeepsItsNumber := by
  intro d hd
  have henc := encDouble_of_normal ((classify_setWidth_64 d).trans hd)
  have hclass := (classify128_of_encDouble henc).trans hd
  obtain ⟨hlo, hhi⟩ := doubleExp_of_normal hd
  refine ⟨_, henc, ?_⟩
  rw [doubleValue_of_normal hd, quadValue_of_normal hclass, quadSign_encShuffle_value, quadExp_encShuffle_value,
    quadFrac_encShuffle_value, rebiasUp_toNat, normalValue_rebias]
  exact ⟨rfl, by omega, by omega, _, rfl, rfl⟩

/-- Settles O20: the exponent field stays zero through both shuffles, so the decoder finds the class of the double. -/
theorem denormalDoubleIsNotRenormalized : Obligations.DenormalDoubleIsNotRenormalized := by
  intro d hd
  have henc := encDouble_of_exp_zero hd
  have hclass64 := classify64_of_exp_zero hd
  have hclass128 := (classify128_of_encDouble henc).trans hclass64
  refine ⟨_, henc, encShuffle_value d 0#15, encShuffle_of_frac_zero, ?number, ?restored⟩
  case number =>
    rw [doubleValue_of_denormal hclass64, quadValue_of_denormal hclass128, quadSign_encShuffle_value,
      quadFrac_encShuffle_value, subnormalValue_rebias]
    exact ⟨_, rfl, rfl⟩
  case restored =>
    have hdec : decDouble (encShuffle d 0#15).value (classify (encShuffle d 0#15).value 128) = .ok d := by
      rw [classify_128, hclass128, decDouble, decShuffle_encShuffle, ← hd, double_fields]
    exact decodeExtended_doubleAlias_of_ok hdec

end Sys2Proof.Machine
end

section
/-! SUPPORT. The cells of the decoder, for any classifier and for the default one, with where the fields that they move lie in
the two limbs (42_decode_extended R92 to R100). -/

namespace Sys2Proof.Machine

/-- A field that runs across the boundary of two words is its part in the upper word on top of its part in the lower. -/
theorem extractLsb'_append_across (hi lo : Word) {start a b : Nat} (h : start + b = 64) :
    (hi ++ lo).extractLsb' start (a + b) = hi.extractLsb' 0 a ++ lo.extractLsb' start b := by
  have hhi : (hi ++ lo).extractLsb' 64 a = hi.extractLsb' 0 a := BitVec.extractLsb'_append_eq_of_le le_rfl
  have hlo : (hi ++ lo).extractLsb' start b = lo.extractLsb' start b := BitVec.extractLsb'_append_eq_of_add_le h.le
  rw [← hhi, ← hlo]
  exact (BitVec.extractLsb'_append_extractLsb'_eq_extractLsb' h.symm).symm

/-- The shuffle of the decoder as fields of the portable value: `D = s ∥ e ∥ F[111:60]` (42 R92). -/
theorem decShuffle_eq (p : Wide) (e : BitVec 11) :
    decShuffle p e = p.extractLsb' 127 1 ++ e ++ p.extractLsb' 60 52 := by
  have hfrac : (quadFrac p).extractLsb' 60 52 = p.extractLsb' 60 52 := BitVec.extractLsb'_extractLsb'_of_le (by decide)
  rw [decShuffle, hfrac, quadSign]

/-- The shuffle of the decoder on two limbs: of LO the top four bits alone are read (42 R92, R97). -/
theorem decShuffle_append (hi lo : Word) (e : BitVec 11) :
    decShuffle (hi ++ lo) e = hi.extractLsb' 63 1 ++ e ++ (hi.extractLsb' 0 48 ++ lo.extractLsb' 60 4) := by
  have hsign : (hi ++ lo).extractLsb' 127 1 = hi.extractLsb' 63 1 := BitVec.extractLsb'_append_eq_of_le (by decide)
  have hfrac : (hi ++ lo).extractLsb' 60 52 = hi.extractLsb' 0 48 ++ lo.extractLsb' 60 4 :=
    extractLsb'_append_across hi lo (a := 48) (b := 4) (by decide)
  rw [decShuffle_eq, hsign, hfrac]

/-- The re-bias subtraction as a number (42 R93, R96; 44_properties R163). -/
theorem rebiasDown_eq_ofNat (e : BitVec 15) :
    rebiasDown e = BitVec.ofNat 11 ((e.toNat + 32768 - 15360) % 32768 % 2048) := by
  have hsub : (e - Config.rebias).toNat = (e.toNat + 32768 - 15360) % 32768 := by
    rw [BitVec.toNat_sub, Config.rebias, BitVec.toNat_ofNat]
    omega
  apply BitVec.eq_of_toNat_eq
  rw [rebiasDown, BitVec.extractLsb'_toNat, hsub, Nat.shiftRight_zero, BitVec.toNat_ofNat, Nat.mod_mod]

/-- The exponent field of the double that `DECX` makes of the exponent field of a portable value (42 R93 to R96). -/
def nativeExp (e : BitVec 15) : BitVec 11 :=
  if e = 0#15 then 0#11 else if e = 0x7FFF#15 then 0x7FF#11 else rebiasDown e

/-- The cell of a normal value (42 R93). -/
@[simp] theorem decDouble_normal (p : Wide) : decDouble p .normal = .ok (decShuffle p (rebiasDown (quadExp p))) := rfl

/-- The cell of a zero or subnormal value (42 R94). -/
@[simp] theorem decDouble_denormal (p : Wide) : decDouble p .denormal = .ok (decShuffle p 0#11) := rfl

/-- The cells of an infinity and of a NaN (42 R95). -/
theorem decDouble_of_infinity_or_nan (p : Wide) {c : ValueClass} (h : c = .infinity ∨ c = .nan) :
    decDouble p c = .ok (decShuffle p 0x7FF#11) := by
  obtain rfl | rfl := h <;> rfl

/-- With the default classifier the decoder to doubles is one shuffle, its exponent field read off the portable value's. -/
theorem decDouble_classify (p : Wide) :
    decDouble p (classify p 128) = .ok (decShuffle p (nativeExp (quadExp p))) := by
  rw [classify_128, classify128, nativeExp]
  by_cases h0 : quadExp p = 0#15
  · rw [if_pos h0, h0, clsIeee_zero, decDouble_denormal]
  · rw [if_neg h0]
    by_cases h1 : quadExp p = 0x7FFF#15
    · rw [if_pos h1, h1]
      exact decDouble_of_infinity_or_nan p (clsIeee_allOnes_infinity_or_nan (by decide) _)
    · rw [if_neg h1, clsIeee_of_ne h0 h1, decDouble_normal]

/-- The two halves put together again from their value (20_memory R31). -/
@[simp] theorem halves_of_value (n : Halves) :
    { nh := n.value.extractLsb' 64 64, nl := n.value.extractLsb' 0 64 : Halves } = n := by
  have hnh : n.value.extractLsb' 64 64 = n.nh := BitVec.extractLsb'_append_eq_left
  have hnl : n.value.extractLsb' 0 64 = n.nl := BitVec.extractLsb'_append_eq_right
  rw [hnh, hnl]

/-- The x87 transform of the decoder as one value: the top 80 bits under 48 zeros (42 R98). -/
theorem decX87_value (l : Limbs) : (decX87 l).value = 0#48 ++ l.value.extractLsb' 48 80 := by
  have hright (x : Word) : x >>> 48 = 0#48 ++ x.extractLsb' 48 16 :=
    (BitVec.ushiftRight_eq_extractLsb'_of_lt (by decide)).trans (BitVec.cast_eq _ _)
  have hleft : l.hi <<< 16 = l.hi.extractLsb' 0 48 ++ 0#16 :=
    (BitVec.shiftLeft_eq_concat_of_lt (by decide)).trans (BitVec.cast_eq _ _)
  have hnl : (l.hi <<< 16) ||| (l.lo >>> 48) = l.hi.extractLsb' 0 48 ++ l.lo.extractLsb' 48 16 := by
    rw [hleft, hright, BitVec.or_append, BitVec.or_zero, BitVec.zero_or]
  have hhi : l.hi.extractLsb' 48 16 ++ l.hi.extractLsb' 0 48 = l.hi := BitVec.extractLsb'_append_extractLsb'
  have hP : l.value.extractLsb' 48 80 = l.hi ++ l.lo.extractLsb' 48 16 :=
    (extractLsb'_append_across l.hi l.lo (a := 64) (by decide)).trans
      (congrArg (· ++ l.lo.extractLsb' 48 16) BitVec.extractLsb'_eq_self)
  calc (decX87 l).value
    _ = 0#48 ++ l.hi.extractLsb' 48 16 ++ (l.hi.extractLsb' 0 48 ++ l.lo.extractLsb' 48 16) := by
      rw [decX87, Halves.value, hnl, hright]
    _ = 0#48 ++ (l.hi.extractLsb' 48 16 ++ (l.hi.extractLsb' 0 48 ++ l.lo.extractLsb' 48 16)) :=
      BitVec.append_assoc.trans (BitVec.cast_eq _ _)
    _ = 0#48 ++ (l.hi.extractLsb' 48 16 ++ l.hi.extractLsb' 0 48 ++ l.lo.extractLsb' 48 16) :=
      congrArg (0#48 ++ ·) (BitVec.append_assoc'.trans (BitVec.cast_eq _ _))
    _ = 0#48 ++ l.value.extractLsb' 48 80 := by rw [hhi, hP]

/-- The x87 transform of the decoder as the halves of that value (42 R98). -/
theorem decX87_eq (l : Limbs) :
    decX87 l = { nh := (0#48 ++ l.value.extractLsb' 48 80 : Wide).extractLsb' 64 64
                 nl := (0#48 ++ l.value.extractLsb' 48 80 : Wide).extractLsb' 0 64 } := by
  rw [← decX87_value, halves_of_value]

section
variable {K : Classifier} {l : Limbs} (h : Bool)

/-- Under a known layout the decoder rejects what the classifier does not recognise (42 R91, R101). -/
theorem decodeExtended_of_unrecognized {L : Layout} (hL : L ≠ .none) (hc : K l.value 128 = .unrecognized) :
    decodeExtended K { layout := L, hostLE := h } l = .error .unknownFloatPattern := by
  cases L with
  | none => exact absurd rfl hL
  | doubleAlias | x87In16 | quad => simp only [decodeExtended, hc, decDouble]

/-- Under `X87In16` the decoder has one transform for every class that the classifier recognises (42 R98). -/
theorem decodeExtended_x87In16_of_recognized (hc : K l.value 128 ≠ .unrecognized) :
    decodeExtended K { layout := .x87In16, hostLE := h } l = .ok (natJoin h (decX87 l)) := by
  unfold decodeExtended
  cases hk : K l.value 128 with
  | unrecognized => exact absurd hk hc
  | normal | denormal | infinity | nan => rfl

/-- Under `Quad` the decoder passes the limbs through for every class that the classifier recognises (42 R99). -/
theorem decodeExtended_quad_of_recognized (hc : K l.value 128 ≠ .unrecognized) :
    decodeExtended K { layout := .quad, hostLE := h } l = .ok (natJoin h { nh := l.hi, nl := l.lo }) := by
  unfold decodeExtended
  cases hk : K l.value 128 with
  | unrecognized => exact absurd hk hc
  | normal | denormal | infinity | nan => rfl

end

end Sys2Proof.Machine
end

section
/-! SUPPORT. What `DECX` leaves on the ports, and what a double made by the shuffle of the decoder is classed as
(20_memory R32; 40_classifier R62; 42_decode_extended R90, R97). -/

namespace Sys2Proof.Machine

/-- The storage words as the port `HOST_LE` orders the halves (20_memory R32). -/
theorem natJoin_beq_one (h : BitVec 1) (n : Halves) :
    natJoin (h == 1#1) n = { w0 := if h = 1#1 then n.nl else n.nh, w1 := if h = 1#1 then n.nh else n.nl } := by
  unfold natJoin
  by_cases hh : h = 1#1 <;> simp [hh]

/-- The whole next state of `DECX` where the decoder gives storage words (42 R90). -/
theorem exec_decx_of_ok {x0 x1 : Word} {s : State} {w : StorageWords}
    (h : decodeExtended classify s.straps { hi := x0, lo := x1 } = .ok w) :
    exec (.decx x0 x1) s = .next { s with y0 := w.w0, y1 := w.w1, cls := 0, err := 0 } := by
  rw [exec_eq_respond, responseOf, decxResponse, h]
  rfl

/-- The whole next state of `DECX` under `DoubleAlias`, as one shuffle (42 R92). -/
theorem exec_decx_doubleAlias {x0 x1 : Word} {s : State} (hL : s.layout = layoutCode .doubleAlias) :
    exec (.decx x0 x1) s =
      .next { s with y0 := decShuffle (x0 ++ x1) (nativeExp (quadExp (x0 ++ x1))), y1 := 0, cls := 0, err := 0 } := by
  apply exec_decx_of_ok (w := { w0 := _, w1 := _ })
  rw [straps_of_layout .doubleAlias hL]
  exact decodeExtended_doubleAlias_of_ok (decDouble_classify _) _

/-- A NaN has the all-ones exponent field (40_classifier R65). -/
theorem clsIeee_eq_nan {we wf : Nat} {e : BitVec we} {f : BitVec wf} (h : clsIeee e f = .nan) :
    e = BitVec.allOnes we := by
  by_contra h1
  by_cases h0 : e = 0#we
  · rw [h0, clsIeee_zero] at h
    cases h
  · rw [clsIeee_of_ne h0 h1] at h
    cases h

/-- The double with an all-ones exponent field and a zero fraction field is an infinity (40_classifier R62, R65). -/
theorem classify64_infinity (s : BitVec 1) : classify64 (s ++ 0x7FF#11 ++ 0#52) = .infinity := by
  have he : doubleExp (s ++ 0x7FF#11 ++ 0#52) = 0x7FF#11 :=
    (BitVec.extractLsb'_append_eq_of_le (by decide)).trans BitVec.extractLsb'_append_eq_right
  have hf : doubleFrac (s ++ 0x7FF#11 ++ 0#52) = 0#52 := BitVec.extractLsb'_append_eq_right
  rw [classify64, he, hf]
  exact (clsIeee_allOnes (by decide) _).trans (if_pos rfl)

end Sys2Proof.Machine
end

section
/-! The statements of 42_decode_extended, from the cells of the decoder. -/

namespace Sys2Proof.Machine

/-- Settles O21: the decoder to doubles is one shuffle, its exponent field that of the three cases. -/
theorem decxDoubleAliasResult : Obligations.DecxDoubleAliasResult := by
  intro x0 x1 s hL P E e
  have he : nativeExp (quadExp P) = e := by
    rw [nativeExp, rebiasDown_eq_ofNat]
    rfl
  rw [exec_decx_doubleAlias hL, he, decShuffle_eq]

/-- Settles O22: of `X1` the shuffle reads the top four bits alone, and a NaN without its payload is an infinity. -/
theorem decxDropsLowFractionBits : Obligations.DecxDropsLowFractionBits := by
  intro s hL
  have hexec (x0 x1 : Word) := exec_decx_doubleAlias (x0 := x0) (x1 := x1) hL
  simp only [quadExp_append, decShuffle_append] at hexec
  constructor
  · intro x0 x1 x1' hx
    exact ⟨_, hexec x0 x1, hx ▸ hexec x0 x1', rfl⟩
  · intro x0 x1 hnan hhi hlo
    have hexp : x0.extractLsb' 48 15 = 0x7FFF#15 := (quadExp_append x0 x1).symm.trans (clsIeee_eq_nan hnan)
    have hzero : (0#48 ++ 0#4 : BitVec 52) = 0#52 := BitVec.zero_append_zero
    have hnext := hexec x0 x1
    rw [hexp, hhi, hlo, hzero] at hnext
    exact ⟨_, hnext, rfl, classify64_infinity _⟩

/-- Settles O23: the default classifier recognises every portable value, and the transform is `0^48 ∥ P[127:48]`. -/
theorem decxX87Result : Obligations.DecxX87Result := by
  intro x0 x1 s hL N
  have hdec := decodeExtended_x87In16_of_recognized (s.hostLE == 1#1)
    (classify_128_ne_unrecognized (Limbs.value { hi := x0, lo := x1 }))
  rw [← straps_of_layout .x87In16 hL, natJoin_beq_one, decX87_eq] at hdec
  exact exec_decx_of_ok hdec

/-- Settles O25, one cell of the table after the other. -/
theorem decodeTableForEveryClassifier : Obligations.DecodeTableForEveryClassifier := by
  intro K h l P c native stored double
  have hdouble {e : BitVec 11} (hdec : decDouble P c = .ok (decShuffle P e)) : native .doubleAlias = .ok (double e) := by
    rw [decShuffle_eq] at hdec
    exact decodeExtended_doubleAlias_of_ok hdec h
  refine ⟨decodeExtended_of_none K rfl l, fun hc L hL => decodeExtended_of_unrecognized h hL hc,
    fun hc => hdouble (hc ▸ decDouble_normal P), fun hc => hdouble (hc ▸ decDouble_denormal P),
    fun hc => hdouble (decDouble_of_infinity_or_nan P hc), fun hc => ⟨?x87, ?quad⟩⟩
  case x87 =>
    have hdec := decodeExtended_x87In16_of_recognized h hc
    rwa [decX87_eq] at hdec
  case quad =>
    have hdec := decodeExtended_quad_of_recognized h hc
    rwa [← halves_of_value { nh := l.hi, nl := l.lo }] at hdec

/-- Settles O24: the default classifier recognises every portable value, so the limbs pass through. -/
theorem decxQuadResult : Obligations.DecxQuadResult := by
  intro x0 x1 s hL
  have hdec := decodeExtended_quad_of_recognized (s.hostLE == 1#1)
    (classify_128_ne_unrecognized (Limbs.value { hi := x0, lo := x1 }))
  rw [← straps_of_layout .quad hL, natJoin_beq_one] at hdec
  exact exec_decx_of_ok hdec

end Sys2Proof.Machine
end

section
/-! SUPPORT. What a pass-through leaves on the ports (43_passthrough R110). -/

namespace Sys2Proof.Machine

/-- The whole next state of an operation that answers two words: it shows no class and no error (30_encoding R45, R46). -/
theorem exec_of_words {i : Instr} {s : State} {a b : Word} (h : responseOf s.straps i = .ok (.words a b)) :
    exec i s = .next { s with y0 := a, y1 := b, cls := 0, err := 0 } := by
  rw [exec_eq_respond, h, respond_words, State.answerWords]

/-- The response of a 32-bit pass-through, the zero extension written out as the upper half of `Y0` (43 R111, R112). -/
theorem pass32_eq (x0 : Word) : pass32 x0 = .ok (.words (0#32 ++ x0.extractLsb' 0 32) 0) := by
  rw [pass32, operand32, BitVec.setWidth_eq_append (by decide)]
  rfl

end Sys2Proof.Machine
end

section
/-! The statement of 43_passthrough: each operation answers the words of its pass-through. -/

namespace Sys2Proof.Machine

/-- Settles O26: the two operations of one width have one response, and it is `X0` at that width. -/
theorem passThroughResults : Obligations.PassThroughResults := fun x0 _ _ =>
  ⟨exec_of_words (pass32_eq x0), exec_of_words (pass32_eq x0), exec_of_words rfl, exec_of_words rfl⟩

end Sys2Proof.Machine
end

section
/-! SUPPORT. The shuffle of the decoder and the re-bias subtraction: what they make of a double's fields, and that they take
back the encoder's (42_decode_extended R92, R93; 44_properties R162 to R164). -/

namespace Sys2Proof.Machine

@[simp] theorem doubleSign_decShuffle (p : Wide) (e : BitVec 11) : doubleSign (decShuffle p e) = quadSign p :=
  (BitVec.extractLsb'_append_eq_of_le (by decide)).trans
    ((BitVec.extractLsb'_append_eq_of_le (by decide)).trans BitVec.extractLsb'_eq_self)

@[simp] theorem doubleExp_decShuffle (p : Wide) (e : BitVec 11) : doubleExp (decShuffle p e) = e :=
  (BitVec.extractLsb'_append_eq_of_le (by decide)).trans BitVec.extractLsb'_append_eq_right

@[simp] theorem doubleFrac_decShuffle (p : Wide) (e : BitVec 11) :
    doubleFrac (decShuffle p e) = (quadFrac p).extractLsb' 60 52 :=
  BitVec.extractLsb'_append_eq_right

/-- With the double's own exponent field, the shuffle of the decoder restores the double (44_properties R164). -/
theorem decShuffle_encShuffle_self (d : Word) (e : BitVec 15) :
    decShuffle (encShuffle d e).value (doubleExp d) = d :=
  (decShuffle_encShuffle d e (doubleExp d)).trans (double_fields d)

/-- In the range of a double's exponent field the re-bias subtraction does not wrap (42 R93). -/
theorem rebiasDown_toNat {e : BitVec 15} (hlo : 15360 ≤ e.toNat) (hhi : e.toNat ≤ 17407) :
    (rebiasDown e).toNat = e.toNat - 15360 := by
  rw [rebiasDown_eq_ofNat, BitVec.toNat_ofNat]
  omega

/-- The re-bias subtraction takes back the addition (44_properties R162, R163). -/
@[simp] theorem rebiasDown_rebiasUp (e : BitVec 11) : rebiasDown (rebiasUp e) = e := by
  have he : e.toNat < 2048 := e.isLt
  have hup := rebiasUp_toNat e
  apply BitVec.eq_of_toNat_eq
  rw [rebiasDown_toNat (by omega) (by omega), hup, Nat.add_sub_cancel]

end Sys2Proof.Machine
end

section
/-! SUPPORT. What the encoder and the decoder have done where they answer no error (41_encode_extended R72 to R82;
42_decode_extended R92 to R101). -/

namespace Sys2Proof.Machine

section
variable {K : Classifier} {d : Word} {n : Halves} {l : Limbs}

/-- The encoder of doubles shuffles, with an exponent field that the class chooses (41 R72). -/
theorem encDouble_ok (h : encDouble K d = .ok l) : ∃ e, l = encShuffle d e := by
  unfold encDouble at h
  cases hc : K (d.setWidth 128) 64 with
  | unrecognized => rw [hc] at h; cases h
  | normal | denormal | infinity | nan => rw [hc] at h; cases h; exact ⟨_, rfl⟩

/-- The x87 encoder puts the 80 meaningful bits on top of 48 zeros, of a pattern that the classifier recognises (41 R77). -/
theorem encX87_ok (h : encX87 K n = .ok l) :
    K ((meaningful80 n).setWidth 128) 80 ≠ .unrecognized ∧ l.value = meaningful80 n ++ 0#48 := by
  by_cases hc : K ((meaningful80 n).setWidth 128) 80 = .unrecognized
  · rw [encX87_of_unrecognized hc] at h
    cases h
  · obtain ⟨l', hl', hv⟩ := encX87_of_recognized hc
    rw [hl'] at h
    cases h
    exact ⟨hc, hv⟩

/-- The quad encoder passes the halves through (41 R79). -/
theorem encQuad_ok (h : encQuad K n = .ok l) : l = { hi := n.nh, lo := n.nl } := by
  by_cases hc : K n.value 128 = .unrecognized
  · rw [encQuad_of_unrecognized hc] at h
    cases h
  · rw [encQuad_of_recognized hc] at h
    cases h
    rfl

/-- The decoder answers words under a known layout, and for a portable value that the classifier recognises (42 R101). -/
theorem decodeExtended_ok {p : Straps} {w : StorageWords} (h : decodeExtended K p l = .ok w) :
    p.layout ≠ .none ∧ K l.value 128 ≠ .unrecognized := by
  have hL : p.layout ≠ .none := by
    intro hL
    rw [decodeExtended_of_none K hL] at h
    cases h
  refine ⟨hL, fun hc => ?_⟩
  rw [decodeExtended_of_unrecognized p.hostLE hL hc] at h
  cases h

/-- The decoder to doubles shuffles, with an exponent field that the class chooses (42 R92). -/
theorem decDouble_of_recognized (p : Wide) {c : ValueClass} (h : c ≠ .unrecognized) :
    ∃ e, decDouble p c = .ok (decShuffle p e) := by
  cases c with
  | unrecognized => exact absurd rfl h
  | normal | denormal | infinity | nan => exact ⟨_, rfl⟩

/-- Under `DoubleAlias` the decoder shuffles every portable value that the classifier recognises (42 R92). -/
theorem decodeExtended_doubleAlias_of_recognized (hc : K l.value 128 ≠ .unrecognized) (h : Bool) :
    ∃ e, decodeExtended K { layout := .doubleAlias, hostLE := h } l = .ok { w0 := decShuffle l.value e, w1 := 0 } := by
  obtain ⟨e, he⟩ := decDouble_of_recognized l.value hc
  exact ⟨e, decodeExtended_doubleAlias_of_ok he h⟩

end

/-- The significand of the 80 meaningful bits is the lower half (30_encoding R55). -/
@[simp] theorem meaningful80_extract_low (n : Halves) : (meaningful80 n).extractLsb' 0 64 = n.nl :=
  BitVec.extractLsb'_append_eq_right

/-- The 80 meaningful bits are the low ones of the native value (30_encoding R55). -/
theorem meaningful80_eq (n : Halves) : meaningful80 n = n.value.extractLsb' 0 80 :=
  ((extractLsb'_append_across n.nh n.nl (start := 0) (a := 16) (b := 64) (by decide)).trans
    (congrArg (n.nh.extractLsb' 0 16 ++ ·) BitVec.extractLsb'_eq_self)).symm

/-- The x87 transform of the decoder keeps the top 80 bits as the meaningful ones (42 R98). -/
theorem meaningful80_decX87 (l : Limbs) : meaningful80 (decX87 l) = l.value.extractLsb' 48 80 := by
  rw [meaningful80_eq, decX87_value]
  exact BitVec.extractLsb'_append_eq_right

/-- The upper half that the x87 transform of the decoder makes has zero padding (42 R98). -/
theorem decX87_nh (l : Limbs) : (decX87 l).nh = ((meaningful80 (decX87 l)).extractLsb' 64 16).setWidth 64 := by
  have hle : (decX87 l).nh = 0#48 ++ l.hi.extractLsb' 48 16 :=
    (BitVec.ushiftRight_eq_extractLsb'_of_lt (by decide)).trans (BitVec.cast_eq _ _)
  have htop : (meaningful80 (decX87 l)).extractLsb' 64 16 = (decX87 l).nh.extractLsb' 0 16 :=
    BitVec.extractLsb'_append_eq_left
  rw [htop, hle, BitVec.extractLsb'_append_eq_right, BitVec.setWidth_eq_append (by decide)]
  rfl

/-- What the x87 encoder made of an object, the decoder gives back without the padding (44_properties R164). -/
theorem decX87_of_value {l : Limbs} {n : Halves} (h : l.value = meaningful80 n ++ 0#48) :
    meaningful80 (decX87 l) = meaningful80 n ∧
    decX87 l = { nh := ((meaningful80 n).extractLsb' 64 16).setWidth 64, nl := n.nl } := by
  have hkept : meaningful80 (decX87 l) = meaningful80 n := by
    rw [meaningful80_decX87, h]
    exact BitVec.extractLsb'_append_eq_left
  have hnl : (decX87 l).nl = n.nl := by
    rw [← meaningful80_extract_low, hkept, meaningful80_extract_low]
  refine ⟨hkept, ?_⟩
  rw [← hkept, ← decX87_nh, ← hnl]

end Sys2Proof.Machine
end

section
/-! SUPPORT. The round trip of one object, for every classifier with P1 to P4 (40_classifier R60; 44_properties R164). -/

namespace Sys2Proof.Machine

section
variable {K : Classifier} (hK : AdmissibleClassifier K)
include hK

/-- The class of a double and its exponent field fix each other, as P2 asks (40_classifier R60). -/
theorem AdmissibleClassifier.double_cases (d : Word) :
    (K (d.setWidth 128) 64 = .denormal ∧ doubleExp d = 0#11) ∨
    ((K (d.setWidth 128) 64 = .infinity ∨ K (d.setWidth 128) 64 = .nan) ∧ doubleExp d = 0x7FF#11) ∨
    K (d.setWidth 128) 64 = .normal := by
  by_cases h0 : doubleExp d = 0#11
  · exact .inl ⟨hK.zeros64 d h0, h0⟩
  · by_cases h1 : doubleExp d = 0x7FF#11
    · exact .inr (.inl ⟨hK.ones64 d h1, h1⟩)
    · exact .inr (.inr (hK.other64 d h0 h1))

/-- The decoder to doubles restores what the encoder of doubles made: P4 gives it the class back, and the class chooses the
exponent field that was there (44_properties R164). -/
theorem decDouble_of_encDouble {d : Word} {l : Limbs} (h : encDouble K d = .ok l) :
    decDouble l.value (K l.value 128) = .ok d := by
  rw [hK.class_kept d l h]
  obtain ⟨hc, he⟩ | ⟨hc, he⟩ | hc := hK.double_cases d
  · rw [encDouble_of_denormal hc] at h
    cases h
    rw [hc, decDouble_denormal, ← he, decShuffle_encShuffle_self]
  · rw [encDouble_of_infinity_or_nan hc] at h
    cases h
    rw [decDouble_of_infinity_or_nan _ hc, ← he, decShuffle_encShuffle_self]
  · rw [encDouble_of_normal hc] at h
    cases h
    rw [hc, decDouble_normal, quadExp_encShuffle_value, rebiasDown_rebiasUp, decShuffle_encShuffle_self]

/-- What the encoder made under one word order, the decoder of the same layout gives back under any other
(44_properties R164). -/
theorem decodeExtended_encodeExtended {L : Layout} {b b' : Bool} {w : StorageWords} {l : Limbs}
    (h : encodeExtended K { layout := L, hostLE := b } w = .ok l) :
    decodeExtended K { layout := L, hostLE := b' } l =
      .ok (objectAsRead { layout := L, hostLE := b } { layout := L, hostLE := b' } w) := by
  cases L with
  | none => cases h
  | doubleAlias => exact decodeExtended_doubleAlias_of_ok (decDouble_of_encDouble hK h) b'
  | x87In16 =>
    obtain ⟨-, hv⟩ := encX87_ok h
    rw [decodeExtended_x87In16_of_recognized b' (hK.total128 _), (decX87_of_value hv).2]
    rfl
  | quad =>
    cases encQuad_ok h
    exact decodeExtended_quad_of_recognized b' (hK.total128 _)

end

end Sys2Proof.Machine
end

section
/-! The statements of 44_properties about the round trip, for every classifier with P1 to P4. -/

namespace Sys2Proof.Machine

/-- Settles O39, layout by layout. -/
theorem roundTripForEveryAdmissibleClassifier : Obligations.RoundTripForEveryAdmissibleClassifier := by
  rintro K hK ⟨L, b⟩ ⟨L', b'⟩ w l hL henc
  obtain rfl : L = L' := hL
  exact decodeExtended_encodeExtended hK henc

/-- Settles O40: the decoder of the same block reads the meaningful bits off the limbs alone. -/
theorem encoderLosesNoMeaningfulBit : Obligations.EncoderLosesNoMeaningfulBit := by
  intro K p w w' l hK h h'
  have hw : decodeExtended K p l = .ok (objectAsRead p p w) := decodeExtended_encodeExtended hK h
  have hw' : decodeExtended K p l = .ok (objectAsRead p p w') := decodeExtended_encodeExtended hK h'
  exact Except.ok.inj (hw.symm.trans hw')

end Sys2Proof.Machine
end

section
/-! SUPPORT. The objects that the writer's encoder accepts, and the platforms that read them (44_properties R164; 60_exceptions
R123). -/

namespace Sys2Proof.Machine

/-- Blocks with the same `LAYOUT` code have the same layout (10_state R16). -/
theorem straps_layout_congr {a b : State} (h : a.layout = b.layout) : a.straps.layout = b.straps.layout :=
  congrArg layoutOfCode h

/-- The encoder gives limbs for every object that the writer accepts (60_exceptions R123). -/
theorem encodeExtended_of_accepted {p : Straps} {w : StorageWords} (h : (Field.ext w).accepted p = true) :
    ∃ l, encodeExtended classify p w = .ok l := by
  obtain ⟨L, b⟩ := p
  cases L with
  | none => cases h
  | doubleAlias => exact ⟨_, encDouble_classify w.w0⟩
  | x87In16 =>
    have hc : classify80 (meaningful80 (natSplit b w)) ≠ .unrecognized := bne_iff_ne.mp h
    obtain ⟨l, hl, -⟩ := encX87_of_recognized (K := classify) ((classify_setWidth_80 _).symm ▸ hc)
    exact ⟨l, hl⟩
  | quad => exact ⟨_, encQuad_of_recognized (classify_128_ne_unrecognized _)⟩

/-- An accepted object is encoded, and a platform of the same layout decodes it (44_properties R164). -/
theorem roundTrip_of_accepted {p q : Straps} {w : StorageWords} (hpq : p.layout = q.layout)
    (h : (Field.ext w).accepted p = true) :
    ∃ l, encodeExtended classify p w = .ok l ∧ decodeExtended classify q l = .ok (objectAsRead p q w) := by
  obtain ⟨l, hl⟩ := encodeExtended_of_accepted h
  exact ⟨l, hl, roundTripForEveryAdmissibleClassifier classify classify_admissible p q w l hpq hl⟩

end Sys2Proof.Machine
end

section
/-! The statement of 44_properties about the round trip on the machine. -/

namespace Sys2Proof.Machine

/-- Settles O38: the ports carry the limbs from the encoder of one block to the decoder of the other. -/
theorem machineRoundTrip : Obligations.MachineRoundTrip := by
  intro a b x0 x1 hab hacc
  obtain ⟨l, henc, hdec⟩ := roundTrip_of_accepted (straps_layout_congr hab) hacc
  exact ⟨_, _, exec_encx_of_ok henc, rfl, exec_decx_of_ok hdec, rfl, rfl⟩

end Sys2Proof.Machine
end

section
/-! SUPPORT. An object on its way through the archive: the items that a field is written as, what writing and reading a field
does, and the same for a list of fields (20_memory R27 to R29; 44_properties R164, R167). -/

namespace Sys2Proof.Machine

/-- The items that a platform writes for a field: none for an extended field that its encoder rejects (20_memory R27, R28). -/
def Field.items (p : Straps) : Field → Archive
  | .f32 v => [.u32 v]
  | .f64 v => [.u64 v]
  | .ext w =>
    match encodeExtended classify p w with
    | .ok l => [.u64 l.hi, .u64 l.lo]
    | .error _ => []

/-- The items of an extended field that is encoded: HI and then LO (20_memory R28). -/
theorem Field.items_ext {p : Straps} {w : StorageWords} {l : Limbs} (h : encodeExtended classify p w = .ok l) :
    (Field.ext w).items p = [.u64 l.hi, .u64 l.lo] := by
  simp only [Field.items, h]

/-- A 32-bit value in a port word is the 32-bit operand (30_encoding R44). -/
@[simp] theorem operand32_setWidth (v : BitVec 32) : operand32 (v.setWidth 64) = v := by
  rw [operand32, BitVec.extractLsb'_setWidth_of_le (by decide), BitVec.extractLsb'_eq_self]

/-- What the block shows after it has served an operation that answers two words, and its straps as before (10_state R18,
R20). -/
theorem served_of_words {s : State} {i : Instr} {y0 y1 : Word} (h : responseOf s.straps i = .ok (.words y0 y1)) :
    ∃ t, served s i.request = some t ∧ t.err = 0 ∧ t.y0 = y0 ∧ t.y1 = y1 ∧ t.straps = s.straps := by
  rw [served_request, h]
  exact ⟨_, rfl, rfl, rfl, rfl, rfl⟩

/-- The 32-bit pass-through of a value answers that value (43_passthrough R111, R112). -/
theorem pass32_setWidth (v : BitVec 32) : pass32 (v.setWidth 64) = .ok (.words (v.setWidth 64) 0) := by
  rw [pass32, operand32_setWidth]

/-- Where the encoder gives limbs, they are the answer of `ENCX` (41 R81). -/
theorem responseOf_encx_of_ok {p : Straps} {w : StorageWords} {l : Limbs} (h : encodeExtended classify p w = .ok l) :
    responseOf p (.encx w.w0 w.w1) = .ok (.words l.hi l.lo) := by
  simp only [responseOf, encxResponse, h]

/-- Where the decoder gives storage words, they are the answer of `DECX` (42 R90). -/
theorem responseOf_decx_of_ok {p : Straps} {l : Limbs} {w : StorageWords} (h : decodeExtended classify p l = .ok w) :
    responseOf p (.decx l.hi l.lo) = .ok (.words w.w0 w.w1) := by
  simp only [responseOf, decxResponse, h]

/-- Writing an accepted field appends its items, shows no error and leaves the straps (20_memory R27, R28). -/
theorem putField_of_accepted {s : State} {f : Field} (hf : f.accepted s.straps = true) (ar : Archive) :
    ∃ t, putField s f ar = some (t, ar ++ f.items s.straps) ∧ t.err = 0 ∧ t.straps = s.straps := by
  cases f with
  | f32 v =>
    obtain ⟨t, hs, herr, hy0, -, ht⟩ := served_of_words (s := s) (i := .encf32 (v.setWidth 64) 0) (pass32_setWidth v)
    have hv : t.y0.extractLsb' 0 32 = v := hy0 ▸ operand32_setWidth v
    refine ⟨t, ?_, herr, ht⟩
    simp only [putField, putF32, hs, hv, writeU32, Field.items]
  | f64 v =>
    obtain ⟨t, hs, herr, hy0, -, ht⟩ := served_of_words (s := s) (i := .encf64 v 0) rfl
    refine ⟨t, ?_, herr, ht⟩
    simp only [putField, putF64, hs, hy0, writeU64, Field.items]
  | ext w =>
    obtain ⟨l, hl⟩ := encodeExtended_of_accepted hf
    obtain ⟨t, hs, herr, hy0, hy1, ht⟩ := served_of_words (responseOf_encx_of_ok hl)
    refine ⟨t, ?_, herr, ht⟩
    rw [putField, putExtended_of_served hs herr, hy0, hy1, Field.items_ext hl]

/-- Reading the items of an accepted field gives the field as the reader sees it and leaves the rest of the archive
(20_memory R27, R29; 44_properties R164, R167). -/
theorem getField_items {s : State} {p : Straps} {f : Field} (hp : p.layout = s.straps.layout) (hf : f.accepted p = true)
    (rest : Archive) :
    ∃ t, getField s f.kind (f.items p ++ rest) = some (t, rest, f.asRead p s.straps) ∧ t.straps = s.straps := by
  cases f with
  | f32 v =>
    obtain ⟨t, hs, herr, hy0, -, ht⟩ := served_of_words (s := s) (i := .decf32 (v.setWidth 64) 0) (pass32_setWidth v)
    have hv : t.y0.extractLsb' 0 32 = v := hy0 ▸ operand32_setWidth v
    have hget : getF32 s (.u32 v :: rest) = some (t, rest) := by simp only [getF32, readU32, hs]
    refine ⟨t, ?_, ht⟩
    simp only [Field.kind, Field.items, List.cons_append, List.nil_append, getField, hget, if_pos herr, hv, Field.asRead]
  | f64 v =>
    obtain ⟨t, hs, herr, hy0, -, ht⟩ := served_of_words (s := s) (i := .decf64 v 0) rfl
    have hget : getF64 s (.u64 v :: rest) = some (t, rest) := by simp only [getF64, readU64, hs]
    refine ⟨t, ?_, ht⟩
    simp only [Field.kind, Field.items, List.cons_append, List.nil_append, getField, hget, if_pos herr, hy0, Field.asRead]
  | ext w =>
    obtain ⟨l, henc, hdec⟩ := roundTrip_of_accepted hp hf
    obtain ⟨t, hs, herr, hy0, hy1, ht⟩ := served_of_words (responseOf_decx_of_ok hdec)
    have hget : getExtended s (.u64 l.hi :: .u64 l.lo :: rest) = some (t, rest) := by
      simp only [getExtended, readU64, hs]
    refine ⟨t, ?_, ht⟩
    simp only [Field.kind, Field.items_ext henc, List.cons_append, List.nil_append, getField, hget, if_pos herr, hy0, hy1,
      Field.asRead]

/-- Writing accepted fields appends the items of each in turn. -/
theorem putObject_of_accepted {s : State} {fs : List Field} (hf : ∀ f ∈ fs, f.accepted s.straps = true) (ar : Archive) :
    ∃ t, putObject s fs ar = some (t, ar ++ fs.flatMap (Field.items s.straps)) := by
  induction fs generalizing s ar with
  | nil => exact ⟨s, by rw [putObject, List.flatMap_nil, List.append_nil]⟩
  | cons f fs ih =>
    obtain ⟨hhead, htail⟩ := List.forall_mem_cons.mp hf
    obtain ⟨t, hput, herr, ht⟩ := putField_of_accepted hhead ar
    rw [← ht] at htail
    obtain ⟨u, hu⟩ := ih htail (ar ++ f.items s.straps)
    rw [ht, List.append_assoc] at hu
    exact ⟨u, by simp only [putObject, hput, if_pos herr, hu, List.flatMap_cons]⟩

/-- Reading the items of accepted fields gives the fields as the reader sees them, and empties the archive. -/
theorem getObject_items {s : State} {p : Straps} {fs : List Field} (hp : p.layout = s.straps.layout)
    (hf : ∀ f ∈ fs, f.accepted p = true) :
    ∃ t, getObject s (fs.map Field.kind) (fs.flatMap (Field.items p)) =
      some (t, [], fs.map (Field.asRead p s.straps)) := by
  induction fs generalizing s with
  | nil => exact ⟨s, rfl⟩
  | cons f fs ih =>
    obtain ⟨hhead, htail⟩ := List.forall_mem_cons.mp hf
    obtain ⟨t, hget, ht⟩ := getField_items hp hhead (fs.flatMap (Field.items p))
    rw [← ht] at hp
    obtain ⟨u, hu⟩ := ih hp htail
    rw [ht] at hu
    exact ⟨u, by simp only [List.map_cons, List.flatMap_cons, getObject, hget, hu]⟩

end Sys2Proof.Machine
end

section
/-! The statement of 44_properties about an object of many fields. -/

namespace Sys2Proof.Machine

/-- Settles O47: the archive holds the items of the fields in order, and the reader takes them off in the same order. -/
theorem objectSurvivesTheArchive : Obligations.ObjectSurvivesTheArchive := by
  intro a b fields hab hacc
  obtain ⟨a', hput⟩ := putObject_of_accepted hacc []
  obtain ⟨b', hget⟩ := getObject_items (straps_layout_congr hab) hacc
  exact ⟨a', _, b', hput, hget⟩

end Sys2Proof.Machine
end

section
/-! SUPPORT. A block after a request serves the next one as the block before it would (44_properties R169;
70_reset_and_hazards R145). -/

namespace Sys2Proof.Machine

@[simp] theorem present_straps (s : State) (r : Request) : (s.present r).straps = s.straps :=
  (settle_inputs (s.drive r)).1

/-- The request presented last is all that the ports show (10_state R21). -/
@[simp] theorem present_present (s : State) (q r : Request) : (s.present q).present r = s.present r :=
  settle_congr (s := (s.present q).drive r) (s' := s.drive r) (present_layout s q) (present_hostLE s q) rfl

/-- What was served before plays no part in what is served next (44_properties R169). -/
@[simp] theorem served_present (s : State) (q : Request) : served (s.present q) = served s := by
  funext r
  rw [served, served, serve, serve, present_present]

end Sys2Proof.Machine
end

section
/-! The statement of 44_properties about sequences of requests. -/

namespace Sys2Proof.Machine

/-- Settles O32, by induction on the sequence: after the first request the block serves the others as before it. -/
theorem responsesDoNotDependOnOrder : Obligations.ResponsesDoNotDependOnOrder := by
  intro s rs
  induction rs generalizing s with
  | nil => exact fun _ => ⟨s, [], rfl, rfl, .nil⟩
  | cons r rs ih =>
    intro hrs
    obtain ⟨hr, htail⟩ := List.forall_mem_cons.mp hrs
    have hserved := served_eq_present s hr
    obtain ⟨u, out, hall, hstraps, hout⟩ := ih (s.present r) htail
    rw [served_present] at hout
    refine ⟨u, (s.present r).rsp :: out, ?_, hstraps.trans (present_straps s r), .cons ⟨_, hserved, rfl⟩ hout⟩
    simp only [serveAll, hserved, hall]

end Sys2Proof.Machine
end

section
/-! SUPPORT. The class that the IEEE rule and the x87 rule give, read back as facts about the fields (40_classifier R63, R65). -/

namespace Sys2Proof.Machine

/-- A zero or subnormal pattern has the all-zeros exponent field (40_classifier R65). -/
theorem clsIeee_eq_denormal {we wf : Nat} {e : BitVec we} {f : BitVec wf} (h : clsIeee e f = .denormal) : e = 0#we := by
  unfold clsIeee at h
  split_ifs at h with h0
  exact h0

/-- An infinity has the all-ones exponent field and a zero fraction field (40_classifier R65). -/
theorem clsIeee_eq_infinity {we wf : Nat} {e : BitVec we} {f : BitVec wf} (h : clsIeee e f = .infinity) :
    e = BitVec.allOnes we ∧ f = 0#wf := by
  unfold clsIeee at h
  split_ifs at h with h0 h1 hf
  exact ⟨h1, hf⟩

/-- Where the x87 rule recognises a pattern, it is the IEEE rule on the bits below the integer bit (40_classifier R63). -/
theorem classify80_of_recognized {v : BitVec 80} (h : classify80 v ≠ .unrecognized) :
    classify80 v = clsIeee (x87Exp v) (x87Frac v) := by
  by_cases h0 : x87Exp v = 0#15
  · rw [h0, clsIeee_zero, classify80, if_pos h0]
  · have hj : x87Int v ≠ 0#1 := fun hj => h ((classify80_eq_unrecognized_iff v).mpr ⟨h0, hj⟩)
    rw [classify80, if_neg h0, if_neg hj, clsIeee, if_neg h0]
    rfl

end Sys2Proof.Machine
end

section
/-! SUPPORT. Sign and class of the portable value that the x87 encoder makes: the explicit integer bit stands in its fraction
field, so an infinity reads as a NaN (41_encode_extended R77, R78; 44_properties R166, R168). -/

namespace Sys2Proof.Machine

theorem quadSign_append_48 (v : BitVec 80) (x : BitVec 48) : quadSign (v ++ x) = x87Sign v :=
  BitVec.extractLsb'_append_eq_of_le (by decide)

theorem quadExp_x87Value (v : BitVec 80) : quadExp (v ++ 0#48) = x87Exp v :=
  BitVec.extractLsb'_append_eq_of_le (by decide)

theorem quadFrac_x87Value (v : BitVec 80) : quadFrac (v ++ 0#48) = x87Int v ++ x87Frac v ++ 0#48 := by
  have hsplit : (v ++ 0#48).extractLsb' 48 64 ++ (v ++ 0#48).extractLsb' 0 48 = (v ++ 0#48).extractLsb' 0 112 :=
    BitVec.extractLsb'_append_extractLsb'_eq_extractLsb' (by decide)
  have hhi : (v ++ 0#48).extractLsb' 48 64 = v.extractLsb' 0 64 := BitVec.extractLsb'_append_eq_of_le le_rfl
  have hint : x87Int v ++ x87Frac v = v.extractLsb' 0 64 :=
    BitVec.extractLsb'_append_extractLsb'_eq_extractLsb' (by decide)
  rw [hhi, ← hint, BitVec.extractLsb'_append_eq_right] at hsplit
  exact hsplit.symm

/-- The sign of the x87 pattern that the decoder takes out of a portable value (42 R98). -/
theorem x87Sign_extractLsb' (p : Wide) : x87Sign (p.extractLsb' 48 80) = quadSign p := by
  have hp : p.extractLsb' 48 80 ++ p.extractLsb' 0 48 = p := BitVec.extractLsb'_append_extractLsb'
  rw [← quadSign_append_48 _ (p.extractLsb' 0 48), hp]

/-- The class of the portable value of a recognised x87 pattern (44_properties R168). -/
theorem classify128_x87Value {v : BitVec 80} (h : classify80 v ≠ .unrecognized) :
    classify128 (v ++ 0#48) = if classify80 v = .infinity then .nan else classify80 v := by
  have hcls := classify80_of_recognized h
  rw [classify128, quadExp_x87Value, quadFrac_x87Value]
  by_cases h0 : x87Exp v = 0#15
  · rw [h0, clsIeee_zero] at hcls
    rw [hcls, h0, clsIeee_zero]
    rfl
  · by_cases h1 : x87Exp v = BitVec.allOnes 15
    · have hj : x87Int v ≠ 0#1 := fun hj => h ((classify80_eq_unrecognized_iff v).mpr ⟨h0, hj⟩)
      have hfrac : x87Int v ++ x87Frac v ++ 0#48 ≠ 0#112 := fun hz =>
        hj (append_eq_zero_iff.mp (append_eq_zero_iff.mp hz).1).1
      have hones : classify80 v = .infinity ∨ classify80 v = .nan := by
        rw [hcls, h1]
        exact clsIeee_allOnes_infinity_or_nan (by decide) _
      rw [h1, clsIeee_allOnes (by decide), if_neg hfrac]
      obtain hc | hc := hones <;> rw [hc] <;> rfl
    · rw [clsIeee_of_ne h0 h1] at hcls
      rw [hcls, clsIeee_of_ne h0 h1]
      rfl

end Sys2Proof.Machine
end

section
/-! The statements of 44_properties about the sign, the word order and the class. -/

namespace Sys2Proof.Machine

/-- Settles O43, layout by layout, in both directions. -/
theorem signIsKept : Obligations.SignIsKept := by
  rintro K ⟨L, b⟩
  constructor
  · intro w l h
    cases L with
    | none => cases h
    | doubleAlias =>
      obtain ⟨e, rfl⟩ := encDouble_ok h
      exact quadSign_encShuffle_value w.w0 e
    | x87In16 =>
      rw [(encX87_ok h).2]
      exact quadSign_append_48 _ _
    | quad =>
      cases encQuad_ok h
      rfl
  · intro l w h
    obtain ⟨hL, hc⟩ := decodeExtended_ok h
    cases L with
    | none => exact absurd rfl hL
    | doubleAlias =>
      obtain ⟨e, he⟩ := decodeExtended_doubleAlias_of_recognized hc b
      cases he.symm.trans h
      exact doubleSign_decShuffle l.value e
    | x87In16 =>
      cases (decodeExtended_x87In16_of_recognized b hc).symm.trans h
      rw [nativeSign, natSplit_natJoin, meaningful80_decX87, x87Sign_extractLsb']
    | quad =>
      cases (decodeExtended_quad_of_recognized b hc).symm.trans h
      rw [nativeSign, natSplit_natJoin]
      rfl

/-- Settles O44: the encoder sees the storage words through `NatSplit` alone, and the decoder makes them by `NatJoin`. -/
theorem limbsDoNotDependOnHostOrder : Obligations.LimbsDoNotDependOnHostOrder := by
  intro K L h h'
  refine ⟨fun n hL => ?enc, fun l hL => ?dec, encodeExtended_hostLE K (by decide) (by decide) h h',
    decodeExtended_hostLE K (by decide) (by decide) h h'⟩
  case enc =>
    cases L with
    | none => rfl
    | doubleAlias => exact absurd rfl hL
    | x87In16 => simp only [encodeExtended_x87In16, natSplit_natJoin]
    | quad => simp only [encodeExtended_quad, natSplit_natJoin]
  case dec =>
    cases L with
    | none => rfl
    | doubleAlias => exact absurd rfl hL
    | x87In16 =>
      have hknown : Layout.x87In16 ≠ .none := by decide
      by_cases hc : K l.value 128 = .unrecognized
      · simp only [decodeExtended_of_unrecognized _ hknown hc, Except.map]
      · simp only [decodeExtended_x87In16_of_recognized _ hc, Except.map, natSplit_natJoin]
    | quad =>
      have hknown : Layout.quad ≠ .none := by decide
      by_cases hc : K l.value 128 = .unrecognized
      · simp only [decodeExtended_of_unrecognized _ hknown hc, Except.map]
      · simp only [decodeExtended_quad_of_recognized _ hc, Except.map, natSplit_natJoin]

/-- Settles O45: the three encoders one after the other. -/
theorem classThroughTheEncoder : Obligations.ClassThroughTheEncoder := by
  refine ⟨fun d l h => classify128_of_encDouble h, fun n l h => ?quad, fun n l h => ?x87⟩
  case quad =>
    cases encQuad_ok h
    rfl
  case x87 =>
    obtain ⟨hc, hv⟩ := encX87_ok h
    rw [classify_setWidth_80] at hc
    rw [(decX87_of_value hv).1, hv]
    exact ⟨classify128_x87Value hc, rfl⟩

end Sys2Proof.Machine
end

section
/-! SUPPORT. A double read as a quad, and a quad read as a double (44_properties R165). -/

namespace Sys2Proof.Machine

/-- Under `Quad` the native value that `DECX` leaves is the portable value of its limbs (42 R99). -/
theorem exec_decx_quad {s : State} (hL : s.layout = layoutCode .quad) (l : Limbs) :
    ∃ u, exec (.decx l.hi l.lo) s = .next u ∧ u.err = 0 ∧
      (natSplit s.straps.hostLE { w0 := u.y0, w1 := u.y1 }).value = l.value := by
  have hdec := decodeExtended_quad_of_recognized s.straps.hostLE (classify_128_ne_unrecognized l.value)
  have hstraps : { layout := .quad, hostLE := s.straps.hostLE } = s.straps := (straps_of_layout .quad hL).symm
  rw [hstraps] at hdec
  refine ⟨_, exec_decx_of_ok hdec, rfl, ?_⟩
  have hsplit := natSplit_natJoin s.straps.hostLE { nh := l.hi, nl := l.lo }
  exact (congrArg Halves.value hsplit).trans rfl

/-- The portable value of a double whose exponent field is reserved keeps the fraction field, under the reserved portable
exponent field (41 R75). -/
theorem encShuffle_value_of_exp_allOnes {d : Word} (h : doubleExp d = 0x7FF#11) :
    (encShuffle d (portableExp (doubleExp d))).value = doubleSign d ++ 0x7FFF#15 ++ doubleFrac d ++ 0#60 := by
  rw [encShuffle_value, h]
  rfl

/-- The portable value of an infinity is the infinity of the same sign (41 R75). -/
theorem encShuffle_value_of_infinity {d : Word} (h : classify64 d = .infinity) :
    (encShuffle d (portableExp (doubleExp d))).value = doubleSign d ++ 0x7FFF#15 ++ 0#112 := by
  obtain ⟨he, hf⟩ := clsIeee_eq_infinity h
  have hzero : (0#52 ++ 0#60 : BitVec 112) = 0#112 := BitVec.zero_append_zero
  rw [encShuffle_value_of_exp_allOnes he, hf, ← hzero]
  exact BitVec.append_assoc.trans (BitVec.cast_eq _ _)

/-- The portable value of a normal double denotes the double's number (44_properties R165). -/
theorem quadValue_encShuffle_of_normal {d : Word} (h : classify64 d = .normal) :
    ∃ q : ℚ, doubleValue d = some q ∧ quadValue (encShuffle d (portableExp (doubleExp d))).value = some q := by
  obtain ⟨l, hl, -, -, -, hnumber⟩ := normalDoubleKeepsItsNumber d h
  cases (encDouble_classify d).symm.trans hl
  exact hnumber

/-- The portable value of a zero or subnormal double denotes a number `2^15360` times smaller (44_properties R165). -/
theorem quadValue_encShuffle_of_denormal {d : Word} (h : classify64 d = .denormal) :
    ∃ q : ℚ, quadValue (encShuffle d (portableExp (doubleExp d))).value = some q ∧
      doubleValue d = some (q * 2 ^ 15360) := by
  obtain ⟨l, hl, -, -, hnumber, -⟩ := denormalDoubleIsNotRenormalized d (clsIeee_eq_denormal h)
  cases (encDouble_classify d).symm.trans hl
  exact hnumber

/-- The double that `DECX` makes of a quad infinity is the infinity of the same sign (42 R95). -/
theorem decShuffle_of_infinity {p : Wide} (h : classify128 p = .infinity) :
    decShuffle p (nativeExp (quadExp p)) = quadSign p ++ 0x7FF#11 ++ 0#52 := by
  obtain ⟨he, hf⟩ := clsIeee_eq_infinity h
  rw [decShuffle, he, hf, BitVec.extractLsb'_zero]
  rfl

/-- Exponent fields that are neither of the two reserved ones are re-biased (42 R93). -/
theorem nativeExp_of_ne {e : BitVec 15} (h0 : e ≠ 0#15) (h1 : e ≠ 0x7FFF#15) : nativeExp e = rebiasDown e := by
  rw [nativeExp, if_neg h0, if_neg h1]

section
variable {p : Wide} (hlo : 15361 ≤ (quadExp p).toNat) (hhi : (quadExp p).toNat ≤ 17406)
include hlo hhi

/-- The exponent field of a quad in the range of a normal double is none of the two reserved ones (40_classifier R65). -/
theorem quadExp_ne_of_range : quadExp p ≠ 0#15 ∧ quadExp p ≠ 0x7FFF#15 :=
  ⟨by bv_omega, by bv_omega⟩

/-- In the range of a normal double the decoder's exponent field is `E - 15360` (42 R93). -/
theorem nativeExp_toNat_of_range : (nativeExp (quadExp p)).toNat = (quadExp p).toNat - 15360 := by
  obtain ⟨h0, h1⟩ := quadExp_ne_of_range hlo hhi
  rw [nativeExp_of_ne h0 h1, rebiasDown_toNat (by omega) (by omega)]

/-- A quad in the range of a normal double is normal (40_classifier R64, R65). -/
theorem classify128_of_range : classify128 p = .normal := by
  obtain ⟨h0, h1⟩ := quadExp_ne_of_range hlo hhi
  exact clsIeee_of_ne h0 h1 _

/-- The double that `DECX` makes of a quad in the range of a normal double is normal (42 R93; 40_classifier R65). -/
theorem classify64_of_range : classify64 (decShuffle p (nativeExp (quadExp p))) = .normal := by
  have hexp := nativeExp_toNat_of_range hlo hhi
  have h0 : nativeExp (quadExp p) ≠ 0#11 := by bv_omega
  have h1 : nativeExp (quadExp p) ≠ 0x7FF#11 := by bv_omega
  rw [classify64, doubleExp_decShuffle]
  exact clsIeee_of_ne h0 h1 _

/-- A quad that a double can hold as a normal denotes the number of the double that `DECX` makes of it (44_properties R165). -/
theorem doubleValue_of_range (hz : p.extractLsb' 0 60 = 0#60) :
    doubleValue (decShuffle p (nativeExp (quadExp p))) = quadValue p := by
  have hlow : (quadFrac p).extractLsb' 0 60 = 0#60 := (BitVec.extractLsb'_extractLsb'_of_le (by decide)).trans hz
  have hfrac : (quadFrac p).extractLsb' 60 52 ++ 0#60 = quadFrac p := by
    rw [← hlow]
    exact BitVec.extractLsb'_append_extractLsb'
  have hexp : (quadExp p).toNat - 15360 + 15360 = (quadExp p).toNat := by omega
  have hvalue := normalValue_rebias (quadSign p) ((quadExp p).toNat - 15360) ((quadFrac p).extractLsb' 60 52)
  rw [hexp, hfrac] at hvalue
  rw [doubleValue_of_normal (classify64_of_range hlo hhi), quadValue_of_normal (classify128_of_range hlo hhi),
    doubleSign_decShuffle, doubleExp_decShuffle, doubleFrac_decShuffle, nativeExp_toNat_of_range hlo hhi, hvalue]

end

end Sys2Proof.Machine
end

section
/-! The statements of 44_properties about doubles and quads on each other's platforms. -/

namespace Sys2Proof.Machine

/-- Settles O41: the quad platform reads the portable value of the double, whose fields the encoder fixes class by class. -/
theorem doubleToQuadFidelity : Obligations.DoubleToQuadFidelity := by
  intro a c x0 x1 ha hc
  have henc : encodeExtended classify a.straps { w0 := x0, w1 := x1 } =
      .ok (encShuffle x0 (portableExp (doubleExp x0))) := by
    rw [straps_of_layout .doubleAlias ha]
    exact encDouble_classify x0
  obtain ⟨u, hu, herr, hvalue⟩ := exec_decx_quad hc (encShuffle x0 (portableExp (doubleExp x0)))
  refine ⟨_, u, exec_encx_of_ok henc, rfl, hu, herr, ?_⟩
  simp only [hvalue]
  exact ⟨quadSign_encShuffle_value _ _, classify128_of_encDouble (encDouble_classify x0), quadValue_encShuffle_of_normal,
    quadValue_encShuffle_of_denormal, encShuffle_value_of_infinity,
    fun hnan => encShuffle_value_of_exp_allOnes (clsIeee_eq_nan hnan)⟩

/-- Settles O42: the double platform reads the shuffle of the quad. -/
theorem quadToDoubleFidelity : Obligations.QuadToDoubleFidelity := by
  intro c a x0 x1 hc ha
  have henc : encodeExtended classify c.straps { w0 := x0, w1 := x1 } =
      .ok { hi := (natSplit c.straps.hostLE { w0 := x0, w1 := x1 }).nh
            lo := (natSplit c.straps.hostLE { w0 := x0, w1 := x1 }).nl } := by
    rw [straps_of_layout .quad hc, encodeExtended_quad]
    exact encQuad_of_recognized (classify_128_ne_unrecognized _)
  refine ⟨_, _, exec_encx_of_ok henc, rfl, exec_decx_doubleAlias ha, rfl, ?_⟩
  intro n
  refine ⟨doubleSign_decShuffle n _, decShuffle_of_infinity, fun hlo hhi hz => ⟨classify64_of_range hlo hhi, ?_⟩⟩
  have hquad := quadValue_of_normal (classify128_of_range hlo hhi)
  exact ⟨_, hquad, (doubleValue_of_range hlo hhi hz).trans hquad⟩

end Sys2Proof.Machine
end

section
/-! SUPPORT. Where each error comes from, both ways (60_exceptions R121 to R123, R125): the layout error from `NONE` alone,
for every classifier; with the default classifier the pattern error from `ENCX` under `X87In16` alone. -/

namespace Sys2Proof.Machine

section
variable {K : Classifier}

/-- The only error of the encoder of doubles (41 R76). -/
theorem encDouble_error {d : Word} {k : ErrorKind} (h : encDouble K d = .error k) : k = .unknownFloatPattern := by
  by_cases hc : K (d.setWidth 128) 64 = .unrecognized
  · rw [encDouble_of_unrecognized hc] at h
    cases h
    rfl
  · exact absurd h (encDouble_ne_error hc k)

/-- The only error of the quad encoder (41 R79). -/
theorem encQuad_error {n : Halves} {k : ErrorKind} (h : encQuad K n = .error k) : k = .unknownFloatPattern := by
  by_cases hc : K n.value 128 = .unrecognized
  · rw [encQuad_of_unrecognized hc] at h
    cases h
    rfl
  · exact absurd h (encQuad_ne_error hc k)

/-- The x87 encoder rejects exactly what the classifier does not recognise (41 R77). -/
theorem encX87_eq_error_iff {n : Halves} :
    encX87 K n = .error .unknownFloatPattern ↔ K ((meaningful80 n).setWidth 128) 80 = .unrecognized := by
  refine ⟨fun h => ?_, encX87_of_unrecognized⟩
  by_contra hc
  obtain ⟨l, hl, -⟩ := encX87_of_recognized hc
  rw [hl] at h
  cases h

/-- Under a known layout the encoder has one error alone (60_exceptions R121, R122). -/
theorem encodeExtended_error_of_known_layout {p : Straps} {w : StorageWords} {k : ErrorKind} (hp : p.layout ≠ .none)
    (h : encodeExtended K p w = .error k) : k = .unknownFloatPattern := by
  obtain ⟨L, b⟩ := p
  cases L with
  | none => exact absurd rfl hp
  | doubleAlias => exact encDouble_error h
  | x87In16 => exact encX87_error h
  | quad => exact encQuad_error h

/-- Under a known layout the decoder has one error alone (60_exceptions R121, R122). -/
theorem decodeExtended_error_of_known_layout {p : Straps} {l : Limbs} {k : ErrorKind} (hp : p.layout ≠ .none)
    (h : decodeExtended K p l = .error k) : k = .unknownFloatPattern := by
  by_cases hc : K l.value 128 = .unrecognized
  · rw [decodeExtended_of_unrecognized p.hostLE hp hc] at h
    cases h
    rfl
  · obtain ⟨w, hw⟩ := decodeExtended_of_recognized hp hc
    rw [hw] at h
    cases h

/-- The encoder answers the layout error under `NONE` and nowhere else, whatever the classifier says (60_exceptions R122,
R125). -/
theorem encodeExtended_eq_layoutError_iff {p : Straps} {w : StorageWords} :
    encodeExtended K p w = .error .unsupportedLongDoubleLayout ↔ p.layout = .none := by
  constructor
  · intro h
    by_contra hp
    cases encodeExtended_error_of_known_layout hp h
  · intro hp
    rw [encodeExtended, hp]

/-- The decoder answers the layout error under `NONE` and nowhere else, whatever the classifier says (60_exceptions R122,
R125). -/
theorem decodeExtended_eq_layoutError_iff {p : Straps} {l : Limbs} :
    decodeExtended K p l = .error .unsupportedLongDoubleLayout ↔ p.layout = .none := by
  constructor
  · intro h
    by_contra hp
    cases decodeExtended_error_of_known_layout hp h
  · exact fun hp => decodeExtended_of_none K hp l

end

/-- With the default classifier the encoder rejects a pattern under `X87In16` alone, and there exactly the 80 meaningful bits
that the classifier does not recognise (40_classifier R68; 60_exceptions R123). -/
theorem encodeExtended_eq_patternError_iff {p : Straps} {w : StorageWords} :
    encodeExtended classify p w = .error .unknownFloatPattern ↔
      p.layout = .x87In16 ∧ classify80 (meaningful80 (natSplit p.hostLE w)) = .unrecognized := by
  have hx87 (hp : p.layout = .x87In16) : encodeExtended classify p w = .error .unknownFloatPattern ↔
      classify80 (meaningful80 (natSplit p.hostLE w)) = .unrecognized := by
    simp only [encodeExtended, hp, encX87_eq_error_iff, classify_setWidth_80]
  constructor
  · intro h
    have hp : p.layout = .x87In16 := encodeExtended_error_layout h
    exact ⟨hp, (hx87 hp).mp h⟩
  · exact fun ⟨hp, hc⟩ => (hx87 hp).mpr hc

/-- `ENCX` passes on the encoder's error (41 R70). -/
theorem encxResponse_eq_error_iff {K : Classifier} {p : Straps} {x0 x1 : Word} {k : ErrorKind} :
    encxResponse K p x0 x1 = .error k ↔ encodeExtended K p { w0 := x0, w1 := x1 } = .error k := by
  unfold encxResponse
  cases encodeExtended K p { w0 := x0, w1 := x1 } <;> simp

/-- `DECX` passes on the decoder's error (42 R90). -/
theorem decxResponse_eq_error_iff {K : Classifier} {p : Straps} {x0 x1 : Word} {k : ErrorKind} :
    decxResponse K p x0 x1 = .error k ↔ decodeExtended K p { hi := x0, lo := x1 } = .error k := by
  unfold decxResponse
  cases decodeExtended K p { hi := x0, lo := x1 } <;> simp

/-- The layout error: the two extended operations under `NONE` (60_exceptions R122, R123). -/
theorem responseOf_eq_layoutError_iff {p : Straps} {i : Instr} :
    responseOf p i = .error .unsupportedLongDoubleLayout ↔
      p.layout = .none ∧ ∃ x0 x1, i = .encx x0 x1 ∨ i = .decx x0 x1 := by
  cases i with
  | encx x0 x1 => simp [responseOf, encxResponse_eq_error_iff, encodeExtended_eq_layoutError_iff]
  | decx x0 x1 => simp [responseOf, decxResponse_eq_error_iff, decodeExtended_eq_layoutError_iff]
  | encf32 | decf32 | encf64 | decf64 | classifyW32 | classifyW64 | classifyW80 | classifyW128 =>
    exact ⟨nofun, by simp⟩

/-- The pattern error: `ENCX` under `X87In16`, of a pattern that the classifier does not recognise (60_exceptions R121,
R123). -/
theorem responseOf_eq_patternError_iff {p : Straps} {i : Instr} :
    responseOf p i = .error .unknownFloatPattern ↔
      p.layout = .x87In16 ∧ ∃ x0 x1, i = .encx x0 x1 ∧
        classify80 (meaningful80 (natSplit p.hostLE { w0 := x0, w1 := x1 })) = .unrecognized := by
  cases i with
  | encx x0 x1 => simp [responseOf, encxResponse_eq_error_iff, encodeExtended_eq_patternError_iff]
  | decx x0 x1 =>
    refine ⟨fun h => ?_, by simp⟩
    obtain ⟨w, hw⟩ := decodeExtended_of_recognized (K := classify) (p := p) (l := { hi := x0, lo := x1 })
      (by simp [responseOf_error_layout h, errorLayout]) (classify_128_ne_unrecognized _)
    rw [responseOf, decxResponse_eq_error_iff, hw] at h
    cases h
  | encf32 | decf32 | encf64 | decf64 | classifyW32 | classifyW64 | classifyW80 | classifyW128 =>
    exact ⟨nofun, by simp⟩

end Sys2Proof.Machine
end

section
/-! SUPPORT. What the `ERR` and `CLS` ports tell about the response that was driven (30_encoding R45 to R47; 60_exceptions
R124), and what a served request leaves behind (60_exceptions R126). -/

namespace Sys2Proof.Machine

/-- Each error kind has a code of its own (30_encoding R47). -/
theorem errorCode_inj {k k' : ErrorKind} : errorCode k = errorCode k' ↔ k = k' := by
  cases k <;> cases k' <;> decide

/-- `ERR` shows the code of an error exactly where the response is that error (30_encoding R47). -/
theorem respond_err_eq_errorCode_iff {s : State} {q : Response} {k : ErrorKind} :
    (s.respond q).err = errorCode k ↔ q = .error k := by
  cases q with
  | ok a =>
    rw [respond_ok_err]
    exact iff_of_false (errorCode_ne_zero k).symm nofun
  | error k' => rw [respond_error, raise_err, errorCode_inj, Except.error.injEq]

/-- A nonzero `ERR` shows that the response was an error (30_encoding R47). -/
theorem exists_error_of_respond_err_ne_zero {s : State} {q : Response} (h : (s.respond q).err ≠ 0) :
    ∃ k, q = .error k := by
  cases q with
  | ok a => exact absurd (respond_ok_err s a) h
  | error k => exact ⟨k, rfl⟩

/-- The `ERR` codes in use beside "no error" (30_encoding R47). -/
theorem errorCode_eq_one_or_two (k : ErrorKind) : errorCode k = 1 ∨ errorCode k = 2 := by
  cases k with
  | unknownFloatPattern => exact .inl rfl
  | unsupportedLongDoubleLayout => exact .inr rfl

/-- `CLS` is zero in every response but a class (30_encoding R46). -/
theorem respond_cls_of_ne_verdict {s : State} {q : Response} (h : ∀ c, q ≠ .ok (.verdict c)) : (s.respond q).cls = 0 := by
  match q with
  | .ok (.words _ _) => rfl
  | .ok (.verdict c) => exact absurd rfl (h c)
  | .error _ => rfl

/-- The answer of `ENCX` is no class (41 R81). -/
theorem encxResponse_ne_verdict (K : Classifier) (p : Straps) (x0 x1 : Word) (c : ValueClass) :
    encxResponse K p x0 x1 ≠ .ok (.verdict c) := by
  unfold encxResponse
  split <;> exact nofun

/-- The answer of `DECX` is no class (42 R90). -/
theorem decxResponse_ne_verdict (K : Classifier) (p : Straps) (x0 x1 : Word) (c : ValueClass) :
    decxResponse K p x0 x1 ≠ .ok (.verdict c) := by
  unfold decxResponse
  split <;> exact nofun

/-- Only the four `CLASSIFY` operations answer a class (30_encoding R46). -/
theorem responseOf_ne_verdict {i : Instr} (hi : i.request.op ≠ 6#3) (p : Straps) (c : ValueClass) :
    responseOf p i ≠ .ok (.verdict c) := by
  cases i with
  | encx x0 x1 => exact encxResponse_ne_verdict classify p x0 x1 c
  | decx x0 x1 => exact decxResponse_ne_verdict classify p x0 x1 c
  | encf32 | decf32 | encf64 | decf64 => exact nofun
  | classifyW32 | classifyW64 | classifyW80 | classifyW128 => exact absurd rfl hi

/-- The operations with `OP = 6` are the four `CLASSIFY` operations (30_encoding R42). -/
theorem request_op_ne_six {i : Instr} (h : ∀ x0 x1, i ≠ .classifyW32 x0 x1 ∧ i ≠ .classifyW64 x0 x1 ∧
    i ≠ .classifyW80 x0 x1 ∧ i ≠ .classifyW128 x0 x1) : i.request.op ≠ 6#3 := by
  cases i with
  | encx | decx | encf32 | decf32 | encf64 | decf64 => simp [Instr.request]
  | classifyW32 x0 x1 | classifyW64 x0 x1 | classifyW80 x0 x1 | classifyW128 x0 x1 => simpa using h x0 x1

/-- All that a served request leaves is what presenting it shows (10_state R21). -/
theorem eq_present_of_served {s t : State} {r : Request} (h : served s r = some t) : t = s.present r := by
  obtain ⟨i, hd, rfl⟩ := served_eq_some h
  exact (settle_of_decode (s := s.drive r) hd).symm

/-- The next request is served as if the request presented before it had not been made, refusals included
(60_exceptions R126). -/
@[simp] theorem serve_present (s : State) (q r : Request) : serve (s.present q) r = serve s r := by
  rw [serve, serve, present_present]

end Sys2Proof.Machine
end

section
/-! The statements of 60_exceptions. -/

namespace Sys2Proof.Machine

/-- Settles O28: the `ERR` port shows which error the response is, and each error has its exact place. -/
theorem errorsOccurExactlyWhere : Obligations.ErrorsOccurExactlyWhere := by
  intro i s
  have hcode (k : ErrorKind) : (s.respond (responseOf s.straps i)).err = errorCode k ↔ responseOf s.straps i = .error k :=
    respond_err_eq_errorCode_iff
  have hlayout (L : Layout) : s.straps.layout = L ↔ s.layout = layoutCode L := layoutOfCode_eq_iff
  refine ⟨_, exec_eq_respond i s, ?layoutError, ?patternError⟩
  case layoutError =>
    exact ((hcode .unsupportedLongDoubleLayout).trans responseOf_eq_layoutError_iff).trans
      (and_congr_left' (hlayout .none))
  case patternError =>
    exact ((hcode .unknownFloatPattern).trans responseOf_eq_patternError_iff).trans (and_congr_left' (hlayout .x87In16))

/-- Settles O29: a nonzero `ERR` comes from `State.raise`, and only an operation with `OP = 6` answers a class. -/
theorem errorResponseCarriesNoData : Obligations.ErrorResponseCarriesNoData := by
  intro i s t h
  rw [exec_eq_respond] at h
  cases h
  constructor
  · intro herr
    obtain ⟨k, hk⟩ := exists_error_of_respond_err_ne_zero herr
    rw [hk, respond_error]
    exact ⟨rfl, errorCode_eq_one_or_two k⟩
  · exact fun hi => respond_cls_of_ne_verdict (responseOf_ne_verdict (request_op_ne_six hi) s.straps)

/-- Settles O30: a request, failed or not, leaves only its ports behind, and presenting the next one overwrites them. -/
theorem failedRequestLeavesNoTrace : Obligations.FailedRequestLeavesNoTrace := by
  intro s t r h _
  have ht := eq_present_of_served h
  refine ⟨fun r' => ?_, ?_⟩
  · rw [ht, serve_present]
  · rw [← h, ht, served_present]

/-- Settles O27: for every classifier the layout error is the answer exactly where the layout is `NONE`. -/
theorem layoutErrorComesFirst : Obligations.LayoutErrorComesFirst := fun _ _ =>
  ⟨fun _ => encodeExtended_eq_layoutError_iff.mpr rfl, fun _ => decodeExtended_eq_layoutError_iff.mpr rfl,
    fun _ hL => ⟨fun _ => mt encodeExtended_eq_layoutError_iff.mp hL,
      fun _ => mt decodeExtended_eq_layoutError_iff.mp hL⟩⟩

end Sys2Proof.Machine
end
